-- ==== Sys2Proof/Word.lean ====
section
/-! DEFINITION. The one word type of the RP-48's two serial lines: the byte of a character's eight
data bits (R24, R198). Loads, temperatures, levels and times are numbers in the manual and are `Nat`
or `Int` here; only what the manual treats as bits (characters, CRC, identity word, category sets,
the counts that wrap) is a bit vector. -/

namespace Sys2Proof

/-- The eight data bits of one character of either serial line (R24, R198). -/
abbrev Byte := BitVec 8

end Sys2Proof
end

