-- ==== Sys2Proof/Syntax.lean ====
section
/-! DEFINITION. The commands of the block, one constructor of `Instr` for each row of
spec/opcode_table.json, in the table's order, and the operand types they carry. A command is an
event at the part: a service request completed, a character or frame on the roof link, a timer that
expired, a conversion, an input sample, an edge of a pin or a change of supply. -/

namespace Sys2Proof

/-- The four stage slots (R135): compressors of circuits 1 and 2, heat stages 1 and 2. -/
inductive Slot where
  | c1 | c2 | h1 | h2
  deriving DecidableEq, Repr

/-- The two compressor circuits, each with its own freeze timer and coil channel (R154). -/
inductive Circuit where
  | one | two
  deriving DecidableEq, Repr

/-- The nine discrete inputs on DIN0 to DIN8, in pin order (R180). -/
inductive InputRole where
  | occ | smoke | fanProve | hp1 | lp1 | hp2 | lp2 | heatProve | filter
  deriving DecidableEq, Repr

/-- Why the roof link receiver gives up a frame (R25): a first character that starts no frame, a
length that is none of 6, 9, 22 and 28, a character with a framing error, or a gap of more than two
character times. -/
inductive ReceiveAbort where
  | badStart (ch : Byte) (framingError : Bool)
  | badLength (l : Byte)
  | framingError
  | gap
  deriving DecidableEq, Repr

/-- How an own attempt fails its read-back (R36). -/
inductive ReadBackFailure where
  | mismatch | framingError | missingCharacter
  deriving DecidableEq, Repr

/-- Why the service receiver gives up a frame it was collecting (R198). -/
inductive ServiceAbort where
  | framingError | gap
  deriving DecidableEq, Repr

/-- The commands, one for each row of spec/opcode_table.json. A roof link frame is carried as its
characters from the start character to the last CRC character (R26). Station numbers are 1 to 48. -/
inductive Instr where
  | powerUp
  | supplyOutOfRange
  | restart
  | secondsTick
  | configure (record : List Byte)
  | start
  | readStatus
  | readEntry (n : Byte)
  | readFaults
  | clear (set : BitVec 24)
  | unlock (code : Byte)
  | serviceRestart
  | leave
  | rollcall
  | linkTest (mask : BitVec 16) (count : Byte)
  | unknownRequest (code : Byte) (payload : List Byte)
  | requestDiscardedBusy
  | serviceFrameBadCrc (frame : List Byte)
  | serviceFrameAbort (cause : ServiceAbort)
  | serviceResponseEnd
  | linkIdle
  | receiveAbort (cause : ReceiveAbort)
  | frameRejected (frame : List Byte)
  | stateReceived (frame : List Byte)
  | shedReceived (frame : List Byte)
  | leaveReceived (frame : List Byte)
  | ownEcho (frame : List Byte)
  | duplicateDetected (frame : List Byte)
  | backoffAbandoned
  | attemptBegin
  | attemptFailed (cause : ReadBackFailure)
  | frameSent
  | spacingExpiry
  | reportTimerExpiry
  | joinExpiry
  | silenceExpiry
  | freshnessExpiry (station : Nat)
  | claimHoldExpiry (station : Nat)
  | settleExpiry
  | holdoffExpiry
  | shedWaitExpiry
  | shedSpacingExpiry
  | changeoverExpiry
  | offDelayExpiry
  | fullOpenExpiry
  | damperTimerExpiry
  | pwmPeriodStart
  | fanProofExpiry
  | proveExpiry (slot : Slot)
  | minRunExpiry (slot : Slot)
  | minOffExpiry (slot : Slot)
  | tripDelayExpiry (slot : Slot)
  | interStageExpiry
  | freezeExpiry (circuit : Circuit)
  | scanTimerExpiry
  | conversionComplete (code : BitVec 12)
  | inputSample (role : InputRole) (pinHigh : Bool)
  | frameStartCharacter
  | charactersAfterFrame
  | serviceStartCharacter
  | serviceLengthZero
  | cutOffFrameRelease
  deriving DecidableEq, Repr

end Sys2Proof
end

