-- ==== Sys2Proof/Decode.lean ====
section
/-! DEFINITION. The block has no instruction words: no row of spec/opcode_table.json gives bits
(every row's `fields` is empty), so no word spells a command. The two serial lines' own frame
formats, which do have an encoding, are in Machine/Operands.lean and Machine/Frames.lean. -/

namespace Sys2Proof

/-- The command a word of the table's bits spells: none, since the table gives no row any bits. -/
def decodeTableWord (_nbits _w : Nat) : Option Instr := none

end Sys2Proof
end

