-- ==== Sys2Proof/Config.lean ====
section
/-! DEFINITION. What is fixed at manufacture and not by the manual. The manual leaves no result of a
command open, so there is no free value here; the timing constants and tables, which the manual
fixes, are in Machine/Timing.lean. -/

namespace Sys2Proof

/-- The 20-bit factory serial the model's part carries at power-up. DESIGN CHOICE (log entry 1),
unsafe: the manual fixes a serial per part (R28) and names none; this is its example part's. State
holds the serial as a field, so a statement about every state speaks of every serial. -/
def Config.factorySerial : BitVec 20 := 0x2C41A

end Sys2Proof
end

