-- ==== Sys2Proof/Machine/State.lean ====
section
/-! DEFINITION. State as plain data: every register, timer, queue, buffer, mode and pin the manual
gives one RP-48, block by block, and `State.reset`, the part right after power-up (R8). INVENTORY.md
lists each field with its rule and its reset value. Quantities the manual defines as always derived
(staged load R136, offer R93, base R60, counted load R59) are functions of State, in Machine/. -/

namespace Sys2Proof.Machine

/-- A timer (R2): `none` is stopped, `some d` is running after a load of `d` milliseconds. How much
of `d` is left is not held: the expiry is a command (log entry 2). -/
abbrev Timer := Option Nat

/-- The two demand sides a stage or a mode can be on. -/
inductive Side where
  | cooling | heating
  deriving DecidableEq, Repr

/-! ## Station control (chapter 1) -/

/-- R4: the seven station states. -/
inductive StationState where
  | config | joining | sharing | isolated | solo | shutdown | left
  deriving DecidableEq, Repr

/-- R4: the isolation cause, NONE outside ISOLATED. -/
inductive IsolationCause where
  | none | silent | transmit | duplicate
  deriving DecidableEq, Repr

/-- Station control's own state (R4, R13, R14, R18). -/
structure StationCtl where
  state : StationState
  cause : IsolationCause
  duplicate : Bool
  join : Timer
  silence : Timer
  deriving DecidableEq, Repr

/-! ## Roof link (chapter 2) -/

/-- R25: the receiver's states. -/
inductive RxState where
  | hunt | collect | discard
  deriving DecidableEq, Repr

/-- R30: a transmit slot's states. -/
inductive SlotState where
  | empty | queued | current
  deriving DecidableEq, Repr

/-- R32: what a SHED carries. -/
structure ShedCall where
  level : Nat
  needed : Nat
  deriving DecidableEq, Repr

/-- R36: the frame of the attempt in progress, as its characters are sent, and whether it carries
ROLL (R31). -/
structure WireFrame where
  bytes : List Byte
  roll : Bool
  deriving DecidableEq, Repr

/-- The Link Controller's state (R24, R25, R30 to R39, R41, R45, R46). `afterFrame` holds in DISCARD
after a complete frame until characters are counted or the link is idle (R25); `backoff` is the
number of slots the count in progress waits (R35); `abandoned` marks an abandoned frame still on the
wire (R37); `cutOff` a frame cut off by a restart whose LNK_DE is not yet released (R11, R34). -/
structure Link where
  rxOn : Bool
  txOn : Bool
  rx : RxState
  afterFrame : Bool
  idle : Bool
  leaveSlot : SlotState
  shedSlot : SlotState
  shedCall : ShedCall
  heldShed : Option ShedCall
  stateSlot : SlotState
  again : Bool
  roll : Bool
  attempts : Nat
  backoff : Option Nat
  onWire : Option WireFrame
  abandoned : Bool
  cutOff : Bool
  drops : Nat
  spacing : Timer
  report : Timer
  rejected : Nat
  testCount : Nat
  testMask : BitVec 16
  deriving DecidableEq, Repr

/-! ## Roof table (chapter 3) -/

/-- R47: the entry states. -/
inductive EntryState where
  | empty | self | fresh | stale | lost
  deriving DecidableEq, Repr

/-- R48: the reported fields of an entry, as received (R27). -/
structure Report where
  identity : BitVec 32
  stationState : Nat
  unitMode : Nat
  level : Nat
  ownSensor : Bool
  spaceTemp : Option Int
  staged : Nat
  fan : Nat
  cap : Nat
  ceiling : Nat
  offer : Nat
  deriving DecidableEq, Repr

/-- R48: a held claim part, as received (R53). -/
structure ClaimPart where
  serial : Nat
  slotCode : Nat
  increment : Nat
  level : Nat
  intended : Nat
  deriving DecidableEq, Repr

/-- R48: one entry. `report` is absent in EMPTY and SELF. -/
structure Entry where
  state : EntryState
  report : Option Report
  claim : Option ClaimPart
  mark : Bool
  freshness : Timer
  claimHold : Timer
  deriving DecidableEq, Repr

/-- An EMPTY entry without a neighbour mark, as at power-up (R64). -/
def Entry.blank : Entry :=
  { state := .empty, report := none, claim := none, mark := false, freshness := none,
    claimHold := none }

/-- R47, R61: entry of station n at index n - 1, and the effective ceiling held as a value. -/
structure RoofTable where
  entries : Vector Entry 48
  ceiling : Nat
  deriving DecidableEq, Repr

/-! ## Admission Unit (chapter 4) -/

/-- R68: the admission states. -/
inductive AdmissionState where
  | idle | settling | holdoff | shedWait
  deriving DecidableEq, Repr

/-- R77: the intended mode of a claim. -/
inductive Intended where
  | none | cool | heat
  deriving DecidableEq, Repr

/-- R68: the own open claim. -/
structure OpenClaim where
  serial : BitVec 8
  slot : Slot
  increment : Nat
  level : Nat
  intended : Intended
  deriving DecidableEq, Repr

/-- R68: what the Admission Unit holds. -/
structure Admission where
  state : AdmissionState
  claim : Option OpenClaim
  lastSerial : BitVec 8
  denials : Nat
  lastLevel : Nat
  headroom : Int
  settle : Timer
  holdoff : Timer
  shedSpacing : Timer
  deriving DecidableEq, Repr

/-! ## Mode Logic (chapter 6) -/

/-- R107: where the zone temperature comes from. -/
inductive ZoneSource where
  | none | own | neighbours
  deriving DecidableEq, Repr

/-- R107: the demand side. -/
inductive DemandSide where
  | none | cooling | heating
  deriving DecidableEq, Repr

/-- R107: the unit mode. -/
inductive UnitMode where
  | off | vent | econ | cool | heat
  deriving DecidableEq, Repr

/-- R130: the full-open timer: stopped, running since a load of `d` milliseconds (R2), or in its
expired condition. -/
inductive FullOpen where
  | stopped
  | running (d : Nat)
  | expired
  deriving DecidableEq, Repr

/-- R107: what the Mode Logic holds. `changeoverSide` counts while `changeover` runs (R123); what it is
while the timer is stopped is log entry 26. -/
structure ModeLogic where
  zoneTemp : Option Int
  zoneSource : ZoneSource
  side : DemandSide
  level : Nat
  cool1 : Bool
  cool2 : Bool
  heat1 : Bool
  heat2 : Bool
  wantedCool : Nat
  wantedHeat : Nat
  mode : UnitMode
  econAvailable : Bool
  changeover : Timer
  changeoverSide : Side
  yieldHold : Option Side
  fan : Bool
  offDelay : Timer
  damperTarget : Nat
  damper : Nat
  fullOpen : FullOpen
  damperTimer : Timer
  deriving DecidableEq, Repr

/-! ## Stage Controller (chapter 7) -/

/-- One value for each of the four slots. -/
structure PerSlot (α : Type) where
  c1 : α
  c2 : α
  h1 : α
  h2 : α
  deriving DecidableEq, Repr

/-- R135: the stage states. -/
inductive StageState where
  | unfitted | offLock | ready | claimed | proving | runLock | runFree | tripped | locked
  deriving DecidableEq, Repr

/-- R135: what each slot holds. The trip history is oldest first (R157). -/
structure Stage where
  state : StageState
  timer : Timer
  prove : Timer
  history : List (BitVec 32)
  deriving DecidableEq, Repr

/-- R138: the fan proof states. -/
inductive FanProof where
  | idle | waiting | proven | recovering | failed
  deriving DecidableEq, Repr

/-- What the Stage Controller holds (R135, R136, R138, R141, R142, R154). `order` is the running
order list, oldest first; `presented` the start request presented and not yet taken. -/
structure StageCtl where
  slots : PerSlot Stage
  order : List Slot
  presented : Option Slot
  interStage : Timer
  freeze1 : Timer
  freeze2 : Timer
  fanProof : FanProof
  fanProofTimer : Timer
  deriving DecidableEq, Repr

/-! ## Sensor Scanner (chapter 8) -/

/-- R162: the six external channels, in channel number order. -/
inductive Channel where
  | zone | ret | supply | outdoor | coil1 | coil2
  deriving DecidableEq, Repr

/-- One value for each external channel. -/
structure PerChannel (α : Type) where
  zone : α
  ret : α
  supply : α
  outdoor : α
  coil1 : α
  coil2 : α
  deriving DecidableEq, Repr

/-- R163: the channel states. -/
inductive ChannelState where
  | unfitted | unseen | valid | holding | invalid
  deriving DecidableEq, Repr

/-- R163: why a channel is INVALID. -/
inductive InvalidCause where
  | none | samples | reference
  deriving DecidableEq, Repr

/-- R163: what each external channel holds; `acc` is the filter accumulator A. -/
structure Sensor where
  state : ChannelState
  raw : BitVec 12
  acc : Int
  value : Option Int
  clamped : Bool
  badStreak : Nat
  goodStreak : Nat
  cause : InvalidCause
  deriving DecidableEq, Repr

/-- R163: the scanner states. -/
inductive ScannerState where
  | normal | suspect
  deriving DecidableEq, Repr

/-- R164: one conversion of a scan's list. -/
inductive Conversion where
  | refHigh | refLow
  | external (ch : Channel)
  deriving DecidableEq, Repr

/-- What the Sensor Scanner holds (R163, R164); `scan` is the conversions of the scan in progress
still to complete. -/
structure Scanner where
  sensors : PerChannel Sensor
  refHigh : BitVec 12
  refLow : BitVec 12
  state : ScannerState
  passStreak : Nat
  failStreak : Nat
  timer : Timer
  scan : List Conversion
  deriving DecidableEq, Repr

/-! ## Input Conditioner (chapter 9) -/

/-- One value for each discrete input. -/
structure PerInput (α : Type) where
  occ : α
  smoke : α
  fanProve : α
  hp1 : α
  lp1 : α
  hp2 : α
  lp2 : α
  heatProve : α
  filter : α
  deriving DecidableEq, Repr

/-- R180: the accepted states. -/
inductive Accepted where
  | unfitted | unsettled | inactive | active
  deriving DecidableEq, Repr

/-- R180: what each input holds; `candidate` is absent until a first sample (R183, R187), and what it
is in a settled input is log entry 27. -/
structure Input where
  accepted : Accepted
  candidate : Option Bool
  streak : Nat
  timer : Timer
  deriving DecidableEq, Repr

/-! ## Fault Capture (chapter 10) -/

/-- R190: the fault categories, in number order from 1. -/
inductive Category where
  | refCheck | zoneSensor | returnSensor | supplySensor | outdoorSensor | coil1Sensor | coil2Sensor
  | hp1 | hp2 | lp1 | lp2 | freeze1 | freeze2 | heatProve | heatLimit | fanProve | filter | smoke
  | lockout | linkSilent | linkTx | duplicate | ceilingMismatch
  deriving DecidableEq, Repr

/-- R192: the first-fault record's fields. -/
structure FaultRecord where
  category : Category
  seconds : BitVec 32
  station : StationState
  mode : UnitMode
  stages : PerSlot StageState
  zoneTemp : Option Int
  supplyTemp : Option Int
  staged : Nat
  level : Nat
  deriving DecidableEq, Repr

/-- R191: the first-fault record (EMPTY is `none`), the later-fault set as the category set of R199,
and the UNCAPTURED flag. -/
structure FaultCapture where
  record : Option FaultRecord
  later : BitVec 24
  uncaptured : Bool
  deriving DecidableEq, Repr

/-! ## Service Port and configuration record (chapter 11) -/

/-- R198: the service receiver's states. -/
inductive ServiceRx where
  | hunt | collect
  deriving DecidableEq, Repr

/-- R200: the request buffer. HELD carries the response being sent and whether a SERVICE_RESTART
waits for its end (R203). -/
inductive RequestBuffer where
  | empty
  | held (response : List Byte) (restartAtEnd : Bool)
  deriving DecidableEq, Repr

/-- R198, R200: what the Service Port holds beside the configuration record. -/
structure ServicePort where
  rx : ServiceRx
  buffer : RequestBuffer
  deriving DecidableEq, Repr

/-- R205, fields 6 to 9: one slot's settings (times in seconds). -/
structure SlotConfig where
  fitted : Bool
  increment : Nat
  minRun : Nat
  minOff : Nat
  deriving DecidableEq, Repr

/-- R180: an input's polarity. -/
inductive Polarity where
  | activeClosed | activeOpen
  deriving DecidableEq, Repr

/-- R180: an input's filter. -/
inductive Filter where
  | none | f2 | f20 | f200
  deriving DecidableEq, Repr

/-- R205, field 22: one input's settings. -/
structure InputConfig where
  fitted : Bool
  polarity : Polarity
  filter : Filter
  deriving DecidableEq, Repr

/-- R205: the configuration record, field by field. -/
structure ConfigRecord where
  station : Nat
  roofSize : Nat
  ceiling : Nat
  cap : Nat
  fanLoad : Nat
  slots : PerSlot SlotConfig
  neighbours : List Nat
  coolSetpoint : Int
  heatSetpoint : Int
  setback : Int
  hardBand : Int
  shedThreshold : Nat
  econEnable : Bool
  econLimit : Int
  damperMin : Nat
  gain : Nat
  satTarget : Int
  channels : PerChannel Bool
  inputs : PerInput InputConfig
  alertMask : BitVec 24
  deriving DecidableEq, Repr

/-! ## Pins -/

/-- A serial output, LNK_TX or SVC_TX: held low without supply (R9), or driven as its line, idle or
sending the characters of the frame in progress, which State holds at the line's owner (log
entry 21). -/
inductive SerialOut where
  | low | line
  deriving DecidableEq, Repr

/-- The output pins: those that carry a level, `true` for high (ALERT is active low), the two serial
outputs, and the DMP output's high time in the present 100 ms period, in 0.1 ms (R131, R135, R126,
R36, R196, and the pin table of the introduction). -/
structure Pins where
  stages : PerSlot Bool
  fan : Bool
  lnkDe : Bool
  alert : Bool
  lnkTx : SerialOut
  svcTx : SerialOut
  dmp : Nat
  deriving DecidableEq, Repr

/-! ## The whole -/

/-- One RP-48 and the commands waiting for it. `powered` is false from a supply out of range until
the next power-up (R9); `serial` is the factory serial of the identity word (R28); `pending` is the
model's own queue of commands, first in, first out (log entry 3). -/
structure State where
  powered : Bool
  serial : BitVec 20
  config : Option ConfigRecord
  station : StationCtl
  link : Link
  table : RoofTable
  adm : Admission
  mode : ModeLogic
  stage : StageCtl
  scan : Scanner
  inputs : PerInput Input
  fault : FaultCapture
  svc : ServicePort
  seconds : BitVec 32
  pins : Pins
  pending : List Instr
  deriving DecidableEq, Repr

/-- No command of the block stops with a fault: the manual describes none that ends its run, and
calls no behaviour undefined (log entry 4). The type has no constructor. -/
inductive Fault : Type
  deriving DecidableEq, Repr

/-- Why a command has no meaning. -/
inductive Refusal where
  /-- Raised by an arm of `exec` whose command has no meaning yet; safe (the machine stops). No arm
  raises it: every command of the table has its meaning. -/
  | notModelled (mnemonic : String)
  deriving DecidableEq, Repr

/-! ## Start values -/

/-- Every slot alike. -/
def PerSlot.all {α : Type} (a : α) : PerSlot α := ⟨a, a, a, a⟩

/-- Every external channel alike. -/
def PerChannel.all {α : Type} (a : α) : PerChannel α := ⟨a, a, a, a, a, a⟩

/-- Every input alike. -/
def PerInput.all {α : Type} (a : α) : PerInput α := ⟨a, a, a, a, a, a, a, a, a⟩

/-- R8: station control at power-up. -/
def StationCtl.start : StationCtl :=
  { state := .config, cause := .none, duplicate := false, join := none, silence := none }

/-- R46: the Link Controller at power-up. -/
def Link.start : Link :=
  { rxOn := false, txOn := false, rx := .discard, afterFrame := false, idle := false,
    leaveSlot := .empty, shedSlot := .empty, shedCall := ⟨0, 0⟩, heldShed := none,
    stateSlot := .empty, again := false, roll := false, attempts := 0, backoff := none,
    onWire := none, abandoned := false, cutOff := false, drops := 0, spacing := none,
    report := none, rejected := 0, testCount := 0, testMask := 0 }

/-- R64: the Roof Table at power-up. -/
def RoofTable.start : RoofTable :=
  { entries := Vector.replicate 48 Entry.blank, ceiling := 0 }

/-- R92: the Admission Unit at power-up and after both restarts. -/
def Admission.start : Admission :=
  { state := .idle, claim := none, lastSerial := 0, denials := 0, lastLevel := 0, headroom := 0,
    settle := none, holdoff := none, shedSpacing := none }

/-- R133: the Mode Logic at power-up and after both restarts. The changeover side, which the manual
gives no value while its timer is stopped, is cooling: DESIGN CHOICE (log entry 26). -/
def ModeLogic.start : ModeLogic :=
  { zoneTemp := none, zoneSource := .none, side := .none, level := 0, cool1 := false,
    cool2 := false, heat1 := false, heat2 := false, wantedCool := 0, wantedHeat := 0,
    mode := .off, econAvailable := false, changeover := none, changeoverSide := .cooling,
    yieldHold := none, fan := false, offDelay := none, damperTarget := 0, damper := 0,
    fullOpen := .stopped, damperTimer := none }

/-- R160: a slot at power-up. -/
def Stage.start : Stage := { state := .unfitted, timer := none, prove := none, history := [] }

/-- R160: the Stage Controller at power-up. -/
def StageCtl.start : StageCtl :=
  { slots := PerSlot.all Stage.start, order := [], presented := none, interStage := none,
    freeze1 := none, freeze2 := none, fanProof := .idle, fanProofTimer := none }

/-- R178: an external channel at power-up. -/
def Sensor.start : Sensor :=
  { state := .unfitted, raw := 0, acc := 0, value := none, clamped := false, badStreak := 0,
    goodStreak := 0, cause := .none }

/-- R178: the Sensor Scanner at power-up, its scan timer loaded with 250 ms. -/
def Scanner.start : Scanner :=
  { sensors := PerChannel.all Sensor.start, refHigh := 0, refLow := 0, state := .normal,
    passStreak := 0, failStreak := 0, timer := some 250, scan := [] }

/-- R187: an input at power-up. -/
def Input.start : Input := { accepted := .unfitted, candidate := none, streak := 0, timer := none }

/-- R191: the Fault Capture at power-up. -/
def FaultCapture.start : FaultCapture := { record := none, later := 0, uncaptured := false }

/-- R198, R200: the Service Port at power-up and after both restarts. -/
def ServicePort.start : ServicePort := { rx := .hunt, buffer := .empty }

/-- R8: the pins at power-up: every level low, ALERT released (high), both serial lines idle. -/
def Pins.start : Pins :=
  { stages := PerSlot.all false, fan := false, lnkDe := false, alert := true, lnkTx := .line,
    svcTx := .line, dmp := 0 }

/-- R9: every output held low. -/
def Pins.low : Pins := { Pins.start with alert := false, lnkTx := .low, svcTx := .low }

/-- R8: the part right after power-up. The factory serial is DESIGN CHOICE (log entry 1). -/
def State.reset : State :=
  { powered := true, serial := Config.factorySerial, config := none, station := .start,
    link := .start, table := .start, adm := .start, mode := .start, stage := .start,
    scan := .start, inputs := PerInput.all Input.start, fault := .start, svc := .start,
    seconds := 0, pins := .start, pending := [] }

end Sys2Proof.Machine
end

