-- ==== Sys2Proof/Machine/Bytes.lean ====
section
/-! DEFINITION. Byte order and the CRC-16 of both serial lines (R26, R29, R198, R199). -/

namespace Sys2Proof.Machine

/-- The byte at an offset, as a number. -/
def byteAt (b : List Byte) (i : Nat) : Nat := (b.getD i 0).toNat

/-- A two-byte field, most significant byte first. -/
def wordAt (b : List Byte) (i : Nat) : Nat := byteAt b i * 256 + byteAt b (i + 1)

/-- A two-byte signed field, two's complement. -/
def signedAt (b : List Byte) (i : Nat) : Int := (BitVec.ofNat 16 (wordAt b i)).toInt

/-- R26, R27: a temperature field; 0x8000 is none. -/
def tempAt (b : List Byte) (i : Nat) : Option Int :=
  if wordAt b i = 0x8000 then none else some (signedAt b i)

/-- A four-byte field. -/
def longAt (b : List Byte) (i : Nat) : BitVec 32 :=
  BitVec.ofNat 32 (wordAt b i * 65536 + wordAt b (i + 2))

/-- One byte of a number. -/
def be8 (n : Nat) : List Byte := [BitVec.ofNat 8 n]

/-- Two bytes, most significant first. -/
def be16 (n : Nat) : List Byte := [BitVec.ofNat 8 (n / 256), BitVec.ofNat 8 n]

/-- Three bytes of a category set (R199). -/
def be24 (v : BitVec 24) : List Byte :=
  BitVec.ofNat 8 (v.toNat / 65536) :: be16 v.toNat

/-- Four bytes, most significant first. -/
def be32 (v : BitVec 32) : List Byte := be16 (v.toNat / 65536) ++ be16 v.toNat

/-- A signed two-byte field. -/
def beInt16 (t : Int) : List Byte := be16 (BitVec.ofInt 16 t).toNat

/-- A temperature field, 0x8000 for none. -/
def beTemp (t : Option Int) : List Byte :=
  match t with
  | some v => beInt16 v
  | none => be16 0x8000

/-- A flag as a byte. -/
def beBool (b : Bool) : List Byte := if b then [1] else [0]

/-- R29: one bit of the generator x^16 + x^12 + x^5 + 1, most significant bit first. -/
def crcShift (r : BitVec 16) : BitVec 16 := if r.msb then (r <<< 1) ^^^ 0x1021 else r <<< 1

/-- R29: one byte into the register. -/
def crcByte (r : BitVec 16) (b : Byte) : BitVec 16 :=
  Nat.repeat crcShift 8 (r ^^^ (b.zeroExtend 16 <<< 8))

/-- R29: the CRC-16 of a run of bytes, from 0xFFFF, no reflection, no final inversion. -/
def crc16 (bytes : List Byte) : BitVec 16 := bytes.foldl crcByte 0xFFFF

/-- R26, R29: the CRC over offsets 1 to 1 + L stands right after them, high byte first. -/
def crcGood (frame : List Byte) : Bool :=
  let l := byteAt frame 1
  (crc16 ((frame.drop 1).take (l + 1))).toNat == wordAt frame (2 + l)

end Sys2Proof.Machine
end

