-- ==== Sys2Proof/Machine/Timing.lean ====
section
/-! DEFINITION. The durations the chapters give, in milliseconds, and the other figures that are
formulas of the station number, an attempt or a claim level. -/

namespace Sys2Proof.Machine

/-- R12: the join time. -/
def joinTime : Nat := 4000
/-- R14: how long silence lasts before it is noticed. -/
def silenceTime : Nat := 6000
/-- R34: own-frame spacing. -/
def spacingTime : Nat := 50
/-- R39: the report period. -/
def reportPeriod : Nat := 2000
/-- R51, R54: each of FRESH and STALE lasts this long. -/
def freshTime : Nat := 5000
/-- R53: a claim part is held this long. -/
def claimHoldTime : Nat := 5000
/-- R77: the settle. -/
def settleTime : Nat := 1500
/-- R78: the shed wait. -/
def shedWaitTime : Nat := 4000
/-- R87: the shed spacing. -/
def shedSpacingTime : Nat := 60000
/-- R123: the changeover time. -/
def changeoverTime : Nat := 300000
/-- R127: the fan off-delay. -/
def offDelayTime : Nat := 60000
/-- R130: the full-open time. -/
def fullOpenTime : Nat := 120000
/-- R129: the damper period. -/
def damperPeriod : Nat := 1000
/-- R135: the prove time. -/
def proveTime : Nat := 30000
/-- R138: the fan proof time. -/
def fanProofTime : Nat := 30000
/-- R142: the inter-stage time. -/
def interStageTime : Nat := 60000
/-- R152: the trip delay. -/
def tripDelay : Nat := 600000
/-- R154: the freeze time. -/
def freezeTime : Nat := 60000
/-- R164: the scan period. -/
def scanPeriod : Nat := 250
/-- R36: the attempts at one frame. -/
def maxAttempts : Nat := 8
/-- R17: the consecutive drops that matter. -/
def dropLimit : Nat := 3

/-- A configured time in seconds as a timer's duration (R135). -/
def ofSeconds (n : Nat) : Nat := n * 1000

/-- R12, R161: the power-return delay of station n. -/
def powerReturnDelay (n : Nat) : Nat := ofSeconds (20 + (n - 1) * 3)

/-- R85: the holdoff after a denial at a claim level, at station n. -/
def holdoffTime (level n : Nat) : Nat := (8 - level) * 2000 + (n - 1) % 8 * 250

/-- R35: the backoff slots of station n before attempt a. -/
def backoffSlots (n a : Nat) : Nat := (n - 1 + 13 * (a - 1)) % 48

/-- R181: the sample interval of a filter. -/
def sampleInterval : Filter → Nat
  | .none => 1
  | .f2 => 2
  | .f20 => 20
  | .f200 => 200

/-- R182, R183: the agreeing samples a filter asks for. -/
def samplesToAccept : Filter → Nat
  | .none => 1
  | .f2 => 3
  | .f20 => 3
  | .f200 => 3

end Sys2Proof.Machine
end

