-- ==== Sys2Proof/Machine/Ops.lean ====
section
/-! DEFINITION. The named operations over State that every block shares: reading and writing one
slot, input, channel or entry, the live quantities the manual derives from state (staged load,
running counts, fan load, usable channel values), and the pins. -/

namespace Sys2Proof.Machine

/-! ## One of several -/

/-- One slot's value. -/
def PerSlot.get {α : Type} (p : PerSlot α) : Slot → α
  | .c1 => p.c1
  | .c2 => p.c2
  | .h1 => p.h1
  | .h2 => p.h2

/-- One slot's value replaced. -/
def PerSlot.set {α : Type} (p : PerSlot α) (i : Slot) (a : α) : PerSlot α :=
  match i with
  | .c1 => { p with c1 := a }
  | .c2 => { p with c2 := a }
  | .h1 => { p with h1 := a }
  | .h2 => { p with h2 := a }

/-- A function of each slot. -/
def PerSlot.of {α : Type} (f : Slot → α) : PerSlot α := ⟨f .c1, f .c2, f .h1, f .h2⟩

/-- The slots in the order C1, C2, H1, H2. -/
def allSlots : List Slot := [.c1, .c2, .h1, .h2]

/-- One input's value. -/
def PerInput.get {α : Type} (p : PerInput α) : InputRole → α
  | .occ => p.occ
  | .smoke => p.smoke
  | .fanProve => p.fanProve
  | .hp1 => p.hp1
  | .lp1 => p.lp1
  | .hp2 => p.hp2
  | .lp2 => p.lp2
  | .heatProve => p.heatProve
  | .filter => p.filter

/-- One input's value replaced. -/
def PerInput.set {α : Type} (p : PerInput α) (i : InputRole) (a : α) : PerInput α :=
  match i with
  | .occ => { p with occ := a }
  | .smoke => { p with smoke := a }
  | .fanProve => { p with fanProve := a }
  | .hp1 => { p with hp1 := a }
  | .lp1 => { p with lp1 := a }
  | .hp2 => { p with hp2 := a }
  | .lp2 => { p with lp2 := a }
  | .heatProve => { p with heatProve := a }
  | .filter => { p with filter := a }

/-- A function of each input. -/
def PerInput.of {α : Type} (f : InputRole → α) : PerInput α :=
  ⟨f .occ, f .smoke, f .fanProve, f .hp1, f .lp1, f .hp2, f .lp2, f .heatProve, f .filter⟩

/-- The inputs in pin order. -/
def allInputs : List InputRole :=
  [.occ, .smoke, .fanProve, .hp1, .lp1, .hp2, .lp2, .heatProve, .filter]

/-- One channel's value. -/
def PerChannel.get {α : Type} (p : PerChannel α) : Channel → α
  | .zone => p.zone
  | .ret => p.ret
  | .supply => p.supply
  | .outdoor => p.outdoor
  | .coil1 => p.coil1
  | .coil2 => p.coil2

/-- One channel's value replaced. -/
def PerChannel.set {α : Type} (p : PerChannel α) (i : Channel) (a : α) : PerChannel α :=
  match i with
  | .zone => { p with zone := a }
  | .ret => { p with ret := a }
  | .supply => { p with supply := a }
  | .outdoor => { p with outdoor := a }
  | .coil1 => { p with coil1 := a }
  | .coil2 => { p with coil2 := a }

/-- A function of each channel. -/
def PerChannel.of {α : Type} (f : Channel → α) : PerChannel α :=
  ⟨f .zone, f .ret, f .supply, f .outdoor, f .coil1, f .coil2⟩

/-- The external channels in channel number order. -/
def allChannels : List Channel := [.zone, .ret, .supply, .outdoor, .coil1, .coil2]

/-! ## Configuration and identity -/

/-- What a block reads while no record is held; only CONFIG is ever without one (R10). -/
def ConfigRecord.absent : ConfigRecord :=
  { station := 0, roofSize := 0, ceiling := 0, cap := 0, fanLoad := 0,
    slots := PerSlot.all ⟨false, 0, 0, 0⟩, neighbours := [], coolSetpoint := 0, heatSetpoint := 0,
    setback := 0, hardBand := 0, shedThreshold := 0, econEnable := false, econLimit := 0,
    damperMin := 0, gain := 0, satTarget := 0, channels := PerChannel.all false,
    inputs := PerInput.all ⟨false, .activeClosed, .none⟩, alertMask := 0 }

/-- The held configuration record. -/
def State.cfg (s : State) : ConfigRecord := s.config.getD ConfigRecord.absent

/-- The own station number. -/
def State.number (s : State) : Nat := s.cfg.station

/-- R28: link revision 1, part code 0x48, factory serial. -/
def State.identity (s : State) : BitVec 32 := 0x1#4 ++ 0x48#8 ++ s.serial

/-- R107: the working states, in which stages may start (R5). -/
def StationState.working : StationState → Bool
  | .sharing => true
  | .isolated => true
  | .solo => true
  | .config => false
  | .joining => false
  | .shutdown => false
  | .left => false

/-- R31: the states in which STATE requests are taken. -/
def StationState.reports : StationState → Bool
  | .joining => true
  | .sharing => true
  | .isolated => true
  | .solo => true
  | .shutdown => true
  | .config => false
  | .left => false

/-! ## Slots -/

/-- R135: the side of a slot. -/
def sideOf : Slot → Side
  | .c1 => .cooling
  | .c2 => .cooling
  | .h1 => .heating
  | .h2 => .heating

/-- The other side. -/
def Side.opposite : Side → Side
  | .cooling => .heating
  | .heating => .cooling

/-- The demand side that is a side. -/
def Side.demand : Side → DemandSide
  | .cooling => .cooling
  | .heating => .heating

/-- The stages of a side. -/
def Side.slots : Side → List Slot
  | .cooling => [.c1, .c2]
  | .heating => [.h1, .h2]

/-- R135: PROVING, RUN_LOCK and RUN_FREE are the running states. -/
def StageState.running : StageState → Bool
  | .proving => true
  | .runLock => true
  | .runFree => true
  | .unfitted => false
  | .offLock => false
  | .ready => false
  | .claimed => false
  | .tripped => false
  | .locked => false

/-- One slot of the machine. -/
def State.slot (s : State) (i : Slot) : Stage := s.stage.slots.get i

/-- One slot's stage state. -/
def State.stageState (s : State) (i : Slot) : StageState := (s.slot i).state

/-- One slot written. -/
def State.setSlot (s : State) (i : Slot) (r : Stage) : State :=
  { s with stage.slots := s.stage.slots.set i r }

/-- Whether a slot's stage is in a running state. -/
def State.isRunning (s : State) (i : Slot) : Bool := (s.stageState i).running

/-- The number of a side's stages in running states. -/
def State.runningCount (s : State) (d : Side) : Nat := (d.slots.filter s.isRunning).length

/-- A slot's configured settings. -/
def State.slotConfig (s : State) (i : Slot) : SlotConfig := s.cfg.slots.get i

/-- A slot's configured increment. -/
def State.increment (s : State) (i : Slot) : Nat := (s.slotConfig i).increment

/-- R136: the staged load. -/
def State.stagedLoad (s : State) : Nat := ((allSlots.filter s.isRunning).map s.increment).sum

/-- The stage states of the four slots. -/
def State.stageStates (s : State) : PerSlot StageState := PerSlot.of s.stageState

/-- The wanted count of a side. -/
def State.wanted (s : State) : Side → Nat
  | .cooling => s.mode.wantedCool
  | .heating => s.mode.wantedHeat

/-! ## Loads as reported -/

/-- The own fan load: the configured one while the fan is commanded (R49, R126). -/
def State.fanLoad (s : State) : Nat := if s.mode.fan then s.cfg.fanLoad else 0

/-- R5, R33, R49: a load field as a STATE and the SELF entry carry it: 0 in SHUTDOWN. -/
def State.reported (s : State) (n : Nat) : Nat := if s.station.state = .shutdown then 0 else n

/-- R93: the offered stage: the newest stage of the running order list in RUN_FREE, if the station
is SHARING and its demand level is not 7. -/
def State.offeredSlot (s : State) : Option Slot :=
  if s.station.state = .sharing ∧ s.mode.level ≠ 7 then
    s.stage.order.reverse.find? (fun i => s.stageState i == .runFree)
  else none

/-- R93: the offer. -/
def State.offer (s : State) : Nat :=
  match s.offeredSlot with
  | some i => s.increment i
  | none => 0

/-! ## Channels and inputs -/

/-- One external channel. -/
def State.sensor (s : State) (c : Channel) : Sensor := s.scan.sensors.get c

/-- One external channel written. -/
def State.setSensor (s : State) (c : Channel) (r : Sensor) : State :=
  { s with scan.sensors := s.scan.sensors.set c r }

/-- R163: usable is VALID or HOLDING. -/
def ChannelState.usable : ChannelState → Bool
  | .valid => true
  | .holding => true
  | .unfitted => false
  | .unseen => false
  | .invalid => false

/-- A channel's value as a reader sees it: its reported value while usable (R163). -/
def State.reading (s : State) (c : Channel) : Option Int :=
  if (s.sensor c).state.usable then (s.sensor c).value else none

/-- One input. -/
def State.input (s : State) (r : InputRole) : Input := s.inputs.get r

/-- One input's accepted state. -/
def State.accepted (s : State) (r : InputRole) : Accepted := (s.input r).accepted

/-- One input written. -/
def State.setInput (s : State) (r : InputRole) (i : Input) : State :=
  { s with inputs := s.inputs.set r i }

/-- Whether an input is accepted ACTIVE. -/
def State.active (s : State) (r : InputRole) : Bool := s.accepted r == .active

/-! ## Roof table entries -/

/-- The entry of station n; an EMPTY one outside 1 to 48. -/
def State.entry (s : State) (n : Nat) : Entry :=
  if h : 1 ≤ n ∧ n ≤ 48 then s.table.entries[n - 1]'(by omega) else Entry.blank

/-- The entry of station n written; nothing outside 1 to 48. -/
def State.setEntry (s : State) (n : Nat) (e : Entry) : State :=
  if h : 1 ≤ n ∧ n ≤ 48 then
    { s with table.entries := s.table.entries.set (n - 1) e (by omega) }
  else s

/-- The entries with their station numbers, in station order. -/
def State.numbered (s : State) : List (Nat × Entry) :=
  s.table.entries.toList.zipIdx.map (fun p => (p.2 + 1, p.1))

/-- FRESH or STALE, the states that still take part (R54, R61, R82). -/
def EntryState.heard : EntryState → Bool
  | .fresh => true
  | .stale => true
  | .empty => false
  | .self => false
  | .lost => false

end Sys2Proof.Machine
end

