-- ==== Sys2Proof/Machine/Flags.lean ====
section
/-! DEFINITION. The Fault Capture (chapter 10): the categories, raising and clearing them, the
conditions their owners hold, the ALERT line, and the output pins that follow state. -/

namespace Sys2Proof.Machine

/-- R190: the categories in number order. -/
def allCategories : List Category :=
  [.refCheck, .zoneSensor, .returnSensor, .supplySensor, .outdoorSensor, .coil1Sensor,
   .coil2Sensor, .hp1, .hp2, .lp1, .lp2, .freeze1, .freeze2, .heatProve, .heatLimit, .fanProve,
   .filter, .smoke, .lockout, .linkSilent, .linkTx, .duplicate, .ceilingMismatch]

/-- R190: a category's number, 1 to 23. -/
def Category.number : Category → Nat
  | .refCheck => 1
  | .zoneSensor => 2
  | .returnSensor => 3
  | .supplySensor => 4
  | .outdoorSensor => 5
  | .coil1Sensor => 6
  | .coil2Sensor => 7
  | .hp1 => 8
  | .hp2 => 9
  | .lp1 => 10
  | .lp2 => 11
  | .freeze1 => 12
  | .freeze2 => 13
  | .heatProve => 14
  | .heatLimit => 15
  | .fanProve => 16
  | .filter => 17
  | .smoke => 18
  | .lockout => 19
  | .linkSilent => 20
  | .linkTx => 21
  | .duplicate => 22
  | .ceilingMismatch => 23

/-- R199: category k is bit k - 1 of a category set. -/
def Category.bit (c : Category) : BitVec 24 := 1#24 <<< (c.number - 1)

/-- Whether a category set holds a category. -/
def Category.within (c : Category) (set : BitVec 24) : Bool := set.getLsbD (c.number - 1)

/-- R190: the sensor category of an external channel. -/
def Channel.category : Channel → Category
  | .zone => .zoneSensor
  | .ret => .returnSensor
  | .supply => .supplySensor
  | .outdoor => .outdoorSensor
  | .coil1 => .coil1Sensor
  | .coil2 => .coil2Sensor

/-- R174: a channel's sensor condition. -/
def State.sensorCondition (s : State) (c : Channel) : Bool :=
  (s.sensor c).state == .invalid && (s.sensor c).cause == .samples

/-- R190: whether the owner's condition holds; never for an event category. -/
def State.condition (s : State) : Category → Bool
  | .refCheck => s.scan.state == .suspect
  | .zoneSensor => s.sensorCondition .zone
  | .returnSensor => s.sensorCondition .ret
  | .supplySensor => s.sensorCondition .supply
  | .outdoorSensor => s.sensorCondition .outdoor
  | .coil1Sensor => s.sensorCondition .coil1
  | .coil2Sensor => s.sensorCondition .coil2
  | .filter => s.active .filter
  | .smoke => s.active .smoke
  | .lockout => allSlots.any (fun i => s.stageState i == .locked)
  | .linkSilent => s.station.state == .isolated && s.station.cause == .silent
  | .linkTx => dropLimit ≤ s.link.drops
  | .duplicate => s.station.duplicate
  | .ceilingMismatch => s.table.ceiling < s.cfg.ceiling
  | .hp1 | .hp2 | .lp1 | .lp2 | .freeze1 | .freeze2 | .heatProve | .heatLimit | .fanProve => false

/-- R192: the fields the first-fault record captures from live state. -/
def State.snapshot (s : State) (c : Category) : FaultRecord :=
  { category := c, seconds := s.seconds, station := s.station.state, mode := s.mode.mode,
    stages := s.stageStates, zoneTemp := s.mode.zoneTemp, supplyTemp := s.reading .supply,
    staged := s.stagedLoad, level := s.mode.level }

/-- R193: raising a category. DEDUCED (log 11): a category that the later-fault set holds and an EMPTY
record captures leaves the set, since R191 keeps the record's category out of the set. -/
def State.raise (s : State) (c : Category) : State :=
  match s.fault.record with
  | none => { s with fault.record := some (s.snapshot c), fault.later := s.fault.later &&& ~~~c.bit }
  | some r =>
    if r.category = c then s else { s with fault.later := s.fault.later ||| c.bit }

/-- Several raises, in order. -/
def State.raiseAll (s : State) (cs : List Category) : State := cs.foldl State.raise s

/-- R195, stages 1 to 3: the named categories removed and UNCAPTURED brought up to date. -/
def FaultCapture.remove (f : FaultCapture) (set : BitVec 24) : FaultCapture :=
  let later := f.later &&& ~~~set
  let record := f.record.filter (fun r => !(r.category.within set))
  let uncaptured := if later = 0 then false else if record.isNone then true else f.uncaptured
  { record := record, later := later, uncaptured := uncaptured }

/-- R195: a CLEAR: the removal, then every named category whose condition holds raised again, in
number order. One that names no category changes nothing. -/
def State.clearFaults (s : State) (set : BitVec 24) : State :=
  if set = 0 then s
  else
    ({ s with fault := s.fault.remove set } : State).raiseAll
      (allCategories.filter (fun c => c.within set && s.condition c))

/-- R196: the categories held, as a set. -/
def FaultCapture.heldSet (f : FaultCapture) : BitVec 24 :=
  match f.record with
  | some r => f.later ||| r.category.bit
  | none => f.later

/-- R196: the alert mask in force: every category while no record is held. -/
def State.alertMask (s : State) : BitVec 24 :=
  match s.config with
  | some r => r.alertMask
  | none => 0x7FFFFF

/-- R196: ALERT is asserted while any held category is alert-enabled. -/
def State.alertAsserted (s : State) : Bool := s.fault.heldSet &&& s.alertMask != 0

/-- The output pins as state drives them (R135 stage pins, R126 FAN, R36 LNK_DE, R196 ALERT, active
low, and the two serial lines); the DMP width is taken at its own period start (R131). -/
def State.drivenPins (s : State) : Pins :=
  { stages := PerSlot.of s.isRunning, fan := s.mode.fan,
    lnkDe := s.link.onWire.isSome || s.link.cutOff, alert := !s.alertAsserted,
    lnkTx := .line, svcTx := .line, dmp := s.pins.dmp }

/-- The pins brought to what state drives. -/
def State.drivePins (s : State) : State := { s with pins := s.drivenPins }

end Sys2Proof.Machine
end

