-- ==== Sys2Proof/Machine/Operands.lean ====
section
/-! DEFINITION. The forms commands carry their operands in, read from bytes: roof link frames and
their validation (R25 to R29, R41), the configuration record and its validation (R205), and the
service requests' codes and lengths (R199, R201). -/

namespace Sys2Proof.Machine

/-! ## Roof link frames -/

/-- What a STATE reports (R26): the ROLL flag, the reported fields and the claim part. -/
structure StateFrame where
  roll : Bool
  report : Report
  claim : Option ClaimPart
  deriving DecidableEq, Repr

/-- The kinds of frame with their payloads as received (R26, R27). -/
inductive FrameBody where
  | state (f : StateFrame)
  | shed (call : ShedCall)
  | leave
  deriving DecidableEq, Repr

/-- A valid frame: the sender's station number and identity word, and the body (R26). -/
structure Frame where
  station : Nat
  identity : BitVec 32
  body : FrameBody
  deriving DecidableEq, Repr

/-- R25: a frame is complete at L + 4 characters, for the four lengths L. -/
def completeFrame (b : List Byte) : Bool :=
  let l := byteAt b 1
  byteAt b 0 == 0xA7 && [6, 9, 22, 28].contains l && b.length == l + 4

/-- R41, check 4: the kind agrees with L, and for a STATE the CLAIM flag with L. -/
def kindAgrees (b : List Byte) : Bool :=
  let l := byteAt b 1
  match byteAt b 2 with
  | 0x31 => (l == 22 && !((byteAt b 8).testBit 1)) || (l == 28 && (byteAt b 8).testBit 1)
  | 0x32 => l == 9
  | 0x33 => l == 6
  | _ => false

/-- R41: the checks of a complete frame, in the rule's order. -/
def validFrame (b : List Byte) : Bool :=
  completeFrame b && crcGood b && kindAgrees b && (1 ≤ byteAt b 3 && byteAt b 3 ≤ 48) &&
    byteAt b 4 / 16 == 1

/-- R26, R27: the claim part of a STATE, each field as it stands. -/
def readClaim (b : List Byte) : ClaimPart :=
  { serial := byteAt b 24, slotCode := byteAt b 25, increment := wordAt b 26, level := byteAt b 28,
    intended := byteAt b 29 }

/-- R26, R27: the payload of a STATE, each field as it stands. -/
def readState (b : List Byte) : StateFrame :=
  { roll := (byteAt b 8).testBit 0
    report :=
      { identity := longAt b 4, stationState := byteAt b 9, unitMode := byteAt b 10,
        level := byteAt b 11, ownSensor := (byteAt b 8).testBit 2, spaceTemp := tempAt b 22,
        staged := wordAt b 12, fan := wordAt b 14, cap := wordAt b 16, ceiling := wordAt b 18,
        offer := wordAt b 20 }
    claim := if byteAt b 1 = 28 then some (readClaim b) else none }

/-- The frame a complete frame's characters spell; `none` when validation fails (R41). -/
def parseFrame (b : List Byte) : Option Frame :=
  if validFrame b then
    some
      { station := byteAt b 3, identity := longAt b 4
        body :=
          match byteAt b 2 with
          | 0x31 => .state (readState b)
          | 0x32 => .shed ⟨byteAt b 8, wordAt b 9⟩
          | _ => .leave }
  else none

/-! ## The configuration record -/

/-- R205: whether a field's value lies in a range. -/
def inRange (lo hi n : Nat) : Bool := lo ≤ n && n ≤ hi

/-- R205: whether a signed field's value lies in a range. -/
def inRangeInt (lo hi n : Int) : Bool := lo ≤ n && n ≤ hi

/-- R205, fields 6 to 9: one slot's seven bytes; an unfitted slot's fields are not examined. -/
def slotFieldPasses (b : List Byte) (i : Nat) : Bool :=
  byteAt b i == 0 ||
    (byteAt b i == 1 && inRange 1 1000 (wordAt b (i + 1)) && inRange 60 1200 (wordAt b (i + 3)) &&
      inRange 60 1800 (wordAt b (i + 5)))

/-- No number of a list stands twice. -/
def noRepeat : List Nat → Bool
  | [] => true
  | a :: rest => !rest.contains a && noRepeat rest

/-- R205, field 10: the neighbour bytes. -/
def neighbourBytes (b : List Byte) : List Nat := (List.range 6).map (fun i => byteAt b (36 + i))

/-- R205, field 10: the neighbour list passes. -/
def neighboursPass (b : List Byte) : Bool :=
  let ns := (neighbourBytes b).filter (fun n => n != 0)
  ns.all (fun n => n ≤ 48 && n != byteAt b 0) && noRepeat ns

/-- R205: the fields' checks, in the order of their numbers. -/
def recordChecks (b : List Byte) : List (Nat × Bool) :=
  [(1, inRange 1 48 (byteAt b 0)),
   (2, inRange 1 48 (byteAt b 1)),
   (3, inRange 100 60000 (wordAt b 2)),
   (4, wordAt b 4 ≤ wordAt b 2),
   (5, wordAt b 6 ≤ 300),
   (6, slotFieldPasses b 8),
   (7, slotFieldPasses b 15),
   (8, slotFieldPasses b 22),
   (9, slotFieldPasses b 29),
   (10, neighboursPass b),
   (11, inRangeInt 180 300 (signedAt b 42)),
   (12, inRangeInt 100 260 (signedAt b 44) && 20 ≤ signedAt b 42 - signedAt b 44),
   (13, byteAt b 46 ≤ 80),
   (14, inRange 20 100 (byteAt b 47)),
   (15, inRange 4 7 (byteAt b 48)),
   (16, byteAt b 49 ≤ 1),
   (17, inRangeInt 100 240 (signedAt b 50)),
   (18, wordAt b 52 ≤ 500),
   (19, inRange 10 200 (byteAt b 54)),
   (20, inRangeInt 100 180 (signedAt b 55)),
   (21, byteAt b 57 < 64),
   (22, (List.range 9).all (fun i => byteAt b (58 + i) < 16)),
   (23, byteAt b 67 < 128)]

/-- R205: the number of the first failing field. -/
def firstFailing (b : List Byte) : Option Nat :=
  ((recordChecks b).find? (fun c => !c.2)).map Prod.fst

/-- R205: one slot's settings. -/
def readSlot (b : List Byte) (i : Nat) : SlotConfig :=
  { fitted := byteAt b i == 1, increment := wordAt b (i + 1), minRun := wordAt b (i + 3),
    minOff := wordAt b (i + 5) }

/-- R205, field 22: one input's settings. -/
def readInput (n : Nat) : InputConfig :=
  { fitted := n.testBit 0
    polarity := if n.testBit 1 then .activeOpen else .activeClosed
    filter := match n / 4 % 4 with
      | 0 => .none
      | 1 => .f2
      | 2 => .f20
      | _ => .f200 }

/-- DIN number of an input (R180). -/
def inputPin : InputRole → Nat
  | .occ => 0
  | .smoke => 1
  | .fanProve => 2
  | .hp1 => 3
  | .lp1 => 4
  | .hp2 => 5
  | .lp2 => 6
  | .heatProve => 7
  | .filter => 8

/-- Channel number of an external channel (R162). -/
def Channel.number : Channel → Nat
  | .zone => 0
  | .ret => 1
  | .supply => 2
  | .outdoor => 3
  | .coil1 => 4
  | .coil2 => 5

/-- R205: the record's fields. -/
def readRecord (b : List Byte) : ConfigRecord :=
  { station := byteAt b 0, roofSize := byteAt b 1, ceiling := wordAt b 2, cap := wordAt b 4,
    fanLoad := wordAt b 6
    slots := ⟨readSlot b 8, readSlot b 15, readSlot b 22, readSlot b 29⟩
    neighbours := neighbourBytes b, coolSetpoint := signedAt b 42, heatSetpoint := signedAt b 44,
    setback := byteAt b 46, hardBand := byteAt b 47, shedThreshold := byteAt b 48,
    econEnable := byteAt b 49 == 1, econLimit := signedAt b 50, damperMin := wordAt b 52,
    gain := byteAt b 54, satTarget := signedAt b 55
    channels := PerChannel.of (fun c => (byteAt b 57).testBit c.number)
    inputs := PerInput.of (fun r => readInput (byteAt b (58 + inputPin r)))
    alertMask := BitVec.ofNat 24 (byteAt b 67 * 65536 + wordAt b 68) }

/-! ## Service requests -/

/-- R199: the length L of each request code's frame; `none` for an unknown code. -/
def requestLength (code : Nat) : Option Nat :=
  match code with
  | 0x01 => some 71
  | 0x02 => some 1
  | 0x10 => some 1
  | 0x11 => some 2
  | 0x12 => some 1
  | 0x20 => some 4
  | 0x21 => some 2
  | 0x30 => some 1
  | 0x31 => some 1
  | 0x32 => some 1
  | 0x33 => some 4
  | _ => none

/-- R198: a complete service frame, from its start character. -/
def completeServiceFrame (f : List Byte) : Bool :=
  byteAt f 0 == 0x5A && byteAt f 1 != 0 && f.length == byteAt f 1 + 4

/-- R199: the command a request of a known code and its length asks for, from its payload. -/
def requestOf (code : Nat) (p : List Byte) : Option Instr :=
  match code with
  | 0x01 => some (.configure p)
  | 0x02 => some .start
  | 0x10 => some .readStatus
  | 0x11 => some (.readEntry (p.getD 0 0))
  | 0x12 => some .readFaults
  | 0x20 => some (.clear (BitVec.ofNat 24 (byteAt p 0 * 65536 + wordAt p 1)))
  | 0x21 => some (.unlock (p.getD 0 0))
  | 0x30 => some .serviceRestart
  | 0x31 => some .leave
  | 0x32 => some .rollcall
  | 0x33 => some (.linkTest (BitVec.ofNat 16 (wordAt p 0)) (p.getD 2 0))
  | _ => none

/-- R198, R199, R201: the command a complete request frame asks for: by its code at offset 2 and its
length, UNKNOWN_REQUEST for another code or length, and SERVICE_FRAME_BAD_CRC for one that fails its
CRC. Characters that are no complete frame ask for none. -/
def readRequest (f : List Byte) : Option Instr :=
  if completeServiceFrame f then
    if crcGood f then
      let l := byteAt f 1
      let payload := (f.drop 3).take (l - 1)
      if requestLength (byteAt f 2) = some l then requestOf (byteAt f 2) payload
      else some (.unknownRequest (f.getD 2 0) payload)
    else some (.serviceFrameBadCrc f)
  else none

/-- R198, R199: a request frame as the unit board sends it. -/
def requestFrame (code : Nat) (payload : List Byte) : List Byte :=
  let body := be8 (1 + payload.length) ++ be8 code ++ payload
  be8 0x5A ++ body ++ be16 (crc16 body).toNat

/-- R199: the slot a slot code names. -/
def slotOfCode (code : Nat) : Option Slot :=
  match code with
  | 1 => some .c1
  | 2 => some .c2
  | 3 => some .h1
  | 4 => some .h2
  | _ => none

end Sys2Proof.Machine
end

