-- ==== Sys2Proof/Machine/RoofTable.lean ====
section
/-! DEFINITION. The Roof Table (chapter 3): what an event does to one entry, the effective ceiling, and
the quantities the table answers with (counted load, base, held claims total). Neighbour updates,
which bring an evaluation, are handed on by the callers. -/

namespace Sys2Proof.Machine

/-- R59: the counted load of station n's entry. -/
def State.counted (s : State) (e : Entry) : Nat :=
  match e.state, e.report with
  | .self, _ => s.reported s.stagedLoad + s.reported s.fanLoad
  | .fresh, some r => r.staged + r.fan
  | .stale, some r => r.staged + r.fan
  | .lost, some r => r.cap + r.fan
  | _, _ => 0

/-- R60: base, the sum of the counted loads of all 48 entries. -/
def State.base (s : State) : Nat := (s.table.entries.toList.map s.counted).sum

/-- R60: the sum of the increments of all held claim parts. -/
def State.heldTotal (s : State) : Nat :=
  (s.table.entries.toList.map (fun e => (e.claim.map ClaimPart.increment).getD 0)).sum

/-- R61: the least of the own configured ceiling and those of FRESH and STALE entries. -/
def State.leastCeiling (s : State) : Nat :=
  s.table.entries.toList.foldl
    (fun least e =>
      match e.state.heard, e.report with
      | true, some r => min least r.ceiling
      | _, _ => least)
    s.cfg.ceiling

/-- R61, R62: the effective ceiling recomputed, CEILING_MISMATCH raised when that lowers it below the
own configured ceiling. -/
def State.recomputeCeiling (s : State) : State :=
  let new := s.leastCeiling
  let lowered := new < s.table.ceiling ∧ new < s.cfg.ceiling
  let s := { s with table.ceiling := new }
  if lowered then s.raise .ceilingMismatch else s

/-- R53: the claim part an entry holds after a STATE is taken, and its hold timer. -/
def Entry.takeClaim (e : Entry) (claim : Option ClaimPart) : Entry :=
  { e with claim := claim, claimHold := claim.map (fun _ => claimHoldTime) }

/-- R51, R52: an entry after a valid STATE. An entry of another identity word is replaced whole,
which leaves the same fields: all of them are the frame's, but the neighbour mark. -/
def Entry.takeState (e : Entry) (f : StateFrame) : Entry :=
  Entry.takeClaim { e with state := .fresh, report := some f.report, freshness := some freshTime }
    f.claim

/-- R56: an entry after a valid LEAVE: EMPTY, but for its neighbour mark. -/
def Entry.takeLeave (e : Entry) : Entry := { Entry.blank with mark := e.mark }

/-- R54: an entry at the expiry of its freshness timer. -/
def Entry.age (e : Entry) : Entry :=
  match e.state with
  | .fresh => { e with state := .stale, freshness := some freshTime }
  | .stale => { e with state := .lost, freshness := none, claim := none, claimHold := none }
  | _ => e

/-- R55: an entry at the expiry of its claim hold timer. -/
def Entry.dropClaim (e : Entry) : Entry := { e with claim := none, claimHold := none }

/-- R50, R65: the entry of station n right after entry to JOINING at station `own`. -/
def Entry.joining (own : Nat) (neighbours : List Nat) (n : Nat) : Entry :=
  { Entry.blank with
    state := if n = own then .self else .empty
    mark := n != own && neighbours.contains n }

/-- R65: the table set afresh on entry to JOINING. -/
def RoofTable.joining (cfg : ConfigRecord) : RoofTable :=
  { entries := Vector.ofFn (fun i : Fin 48 => Entry.joining cfg.station cfg.neighbours (i.val + 1))
    ceiling := cfg.ceiling }

/-- R13: whether any entry is FRESH. -/
def State.anyFresh (s : State) : Bool :=
  s.table.entries.toList.any (fun e => e.state == .fresh)

/-! ## The candidate list of a shed call (chapter 5) -/

/-- R98: what the Shed Responder uses of a candidate. -/
structure Candidate where
  level : Nat
  offer : Nat
  station : Nat
  deriving DecidableEq, Repr

/-- R98: the values an entry would be a candidate with: live for SELF, as received for FRESH. -/
def State.candidateOf (s : State) (p : Nat × Entry) : Option Candidate :=
  match p.2.state, p.2.report with
  | .self, _ => some ⟨s.mode.level, s.offer, p.1⟩
  | .fresh, some r => some ⟨r.level, r.offer, p.1⟩
  | _, _ => none

/-- R97: which entries are candidates for a call from station `caller`. -/
def Candidate.qualifies (caller level : Nat) (c : Candidate) : Bool :=
  0 < c.offer && c.level + 2 ≤ level && c.station != caller

/-- R99: the order of the list: demand level ascending, offer descending, station number
descending. -/
def Candidate.before (a b : Candidate) : Bool :=
  a.level < b.level ||
    (a.level == b.level && (b.offer < a.offer || (a.offer == b.offer && b.station < a.station)))

/-- R99: a candidate put in its place. -/
def insertCandidate (c : Candidate) : List Candidate → List Candidate
  | [] => [c]
  | d :: rest => if c.before d then c :: d :: rest else d :: insertCandidate c rest

/-- R97, R99: the ordered candidate list for a call from station `caller`. -/
def State.candidates (s : State) (caller level : Nat) : List Candidate :=
  ((s.numbered.filterMap s.candidateOf).filter (Candidate.qualifies caller level)).foldr
    insertCandidate []

/-- R100: the shortest leading part whose offers sum to at least the needed load. -/
def shedPrefix (needed : Nat) : List Candidate → List Candidate
  | [] => []
  | c :: rest => if needed = 0 then [] else c :: shedPrefix (needed - c.offer) rest

end Sys2Proof.Machine
end

