-- ==== Sys2Proof/Machine/Frames.lean ====
section
/-! DEFINITION. The bytes the part sends: own roof link frames with the content live at the attempt
(R26, R33, R45), and the response frames of the service line with the status, entry and fault records
(R199, R206 to R208). -/

namespace Sys2Proof.Machine

/-! ## Codes -/

/-- R4: the station state codes. -/
def StationState.code : StationState → Nat
  | .config => 0
  | .joining => 1
  | .sharing => 2
  | .isolated => 3
  | .solo => 4
  | .shutdown => 5
  | .left => 6

/-- R206: the isolation cause codes. -/
def IsolationCause.code : IsolationCause → Nat
  | .none => 0
  | .silent => 1
  | .transmit => 2
  | .duplicate => 3

/-- R27: the unit mode codes. -/
def UnitMode.code : UnitMode → Nat
  | .off => 0
  | .vent => 1
  | .econ => 2
  | .cool => 3
  | .heat => 4

/-- R27: the intended mode codes. -/
def Intended.code : Intended → Nat
  | .none => 0
  | .cool => 3
  | .heat => 4

/-- R107: the demand side codes. -/
def DemandSide.code : DemandSide → Nat
  | .none => 0
  | .cooling => 1
  | .heating => 2

/-- R107: the zone source codes. -/
def ZoneSource.code : ZoneSource → Nat
  | .none => 0
  | .own => 1
  | .neighbours => 2

/-- R68: the admission state codes. -/
def AdmissionState.code : AdmissionState → Nat
  | .idle => 0
  | .settling => 1
  | .holdoff => 2
  | .shedWait => 3

/-- R135: the stage state codes. -/
def StageState.code : StageState → Nat
  | .unfitted => 0
  | .offLock => 1
  | .ready => 2
  | .claimed => 3
  | .proving => 4
  | .runLock => 5
  | .runFree => 6
  | .tripped => 7
  | .locked => 8

/-- R163: the channel state codes. -/
def ChannelState.code : ChannelState → Nat
  | .unfitted => 0
  | .unseen => 1
  | .valid => 2
  | .holding => 3
  | .invalid => 4

/-- R163: the scanner state codes. -/
def ScannerState.code : ScannerState → Nat
  | .normal => 0
  | .suspect => 1

/-- R180: the accepted state codes. -/
def Accepted.code : Accepted → Nat
  | .unfitted => 0
  | .unsettled => 1
  | .inactive => 2
  | .active => 3

/-- R47: the entry state codes. -/
def EntryState.code : EntryState → Nat
  | .empty => 0
  | .self => 1
  | .fresh => 2
  | .stale => 3
  | .lost => 4

/-- R26: the slot codes of a claim part. -/
def slotCode : Slot → Nat
  | .c1 => 1
  | .c2 => 2
  | .h1 => 3
  | .h2 => 4

/-! ## Own roof link frames -/

/-- R26, R29, R45: a frame's characters; its CRC combined with the link test mask. -/
def linkFrame (kind station : Nat) (identity : BitVec 32) (payload : List Byte)
    (mask : BitVec 16) : List Byte :=
  let body := be8 (6 + payload.length) ++ be8 kind ++ be8 station ++ be32 identity ++ payload
  be8 0xA7 ++ body ++ be16 (crc16 body ^^^ mask).toNat

/-- R33, R49: what the station reports of itself at this moment. -/
def State.selfReport (s : State) : Report :=
  { identity := s.identity, stationState := s.station.state.code, unitMode := s.mode.mode.code,
    level := s.mode.level, ownSensor := s.mode.zoneSource == .own, spaceTemp := s.mode.zoneTemp,
    staged := s.reported s.stagedLoad, fan := s.reported s.fanLoad, cap := s.reported s.cfg.cap,
    ceiling := s.cfg.ceiling, offer := s.reported s.offer }

/-- R33: the claim part of the open claim. -/
def OpenClaim.part (c : OpenClaim) : ClaimPart :=
  { serial := c.serial.toNat, slotCode := slotCode c.slot, increment := c.increment,
    level := c.level, intended := c.intended.code }

/-- R33: the content of a STATE attempt beginning now. -/
def State.stateContent (s : State) : StateFrame :=
  { roll := s.link.roll, report := s.selfReport
    claim := s.adm.claim.map OpenClaim.part }

/-- R26: a claim part's six bytes. -/
def claimBytes (c : ClaimPart) : List Byte :=
  be8 c.serial ++ be8 c.slotCode ++ be16 c.increment ++ be8 c.level ++ be8 c.intended

/-- R26: a STATE's payload. -/
def stateBytes (f : StateFrame) : List Byte :=
  be8 (f.roll.toNat + 2 * f.claim.isSome.toNat + 4 * f.report.ownSensor.toNat) ++
    be8 f.report.stationState ++ be8 f.report.unitMode ++ be8 f.report.level ++
    be16 f.report.staged ++ be16 f.report.fan ++ be16 f.report.cap ++ be16 f.report.ceiling ++
    be16 f.report.offer ++ beTemp f.report.spaceTemp ++
    match f.claim with
    | some c => claimBytes c
    | none => []

/-- R26: a frame's kind code. -/
def FrameBody.kind : FrameBody → Nat
  | .state _ => 0x31
  | .shed _ => 0x32
  | .leave => 0x33

/-- R26, R32: a frame's payload; a needed load above 65,535 is sent as 65,535. -/
def FrameBody.payload : FrameBody → List Byte
  | .state f => stateBytes f
  | .shed c => be8 c.level ++ be16 (min 65535 c.needed)
  | .leave => []

/-- R26: the characters of a frame whose CRC carries a mask. -/
def Frame.encode (f : Frame) (mask : BitVec 16) : List Byte :=
  linkFrame f.body.kind f.station f.identity f.body.payload mask

/-- R30, R33, R36: the frame of the CURRENT slot as an attempt beginning now sends it. -/
def State.currentFrame (s : State) : Frame :=
  { station := s.number, identity := s.identity
    body :=
      if s.link.leaveSlot = .current then .leave
      else if s.link.shedSlot = .current then .shed s.link.shedCall
      else .state s.stateContent }

/-! ## Service responses -/

/-- R199: the result codes. -/
inductive ServiceResult where
  | ok | refused | badRecord | badArgument
  deriving DecidableEq, Repr

/-- R199: the result codes' numbers. -/
def ServiceResult.code : ServiceResult → Nat
  | .ok => 0
  | .refused => 1
  | .badRecord => 2
  | .badArgument => 3

/-- R199: a response frame. -/
def responseFrame (code : Nat) (result : ServiceResult) (payload : List Byte) : List Byte :=
  let body := be8 (2 + payload.length) ++ be8 code ++ be8 result.code ++ payload
  be8 0xA5 ++ body ++ be16 (crc16 body).toNat

/-- The four stage state codes as bytes. -/
def stageBytes (p : PerSlot StageState) : List Byte :=
  be8 p.c1.code ++ be8 p.c2.code ++ be8 p.h1.code ++ be8 p.h2.code

/-- R206: one channel's four bytes. -/
def channelBytes (c : Sensor) : List Byte :=
  beTemp (if c.state.usable then c.value else none) ++ be8 c.state.code ++ beBool c.clamped

/-- R206: the status record. -/
def State.statusRecord (s : State) : List Byte :=
  be8 s.station.state.code ++ be8 s.station.cause.code ++ be8 s.mode.mode.code ++
    be8 s.mode.side.code ++ be8 s.mode.level ++ be8 s.adm.lastLevel ++ be8 s.adm.denials ++
    be8 s.adm.state.code ++ be32 (BitVec.ofInt 32 s.adm.headroom) ++ stageBytes s.stageStates ++
    be16 s.stagedLoad ++ be16 (s.reported s.fanLoad) ++ be16 s.table.ceiling ++
    beTemp s.mode.zoneTemp ++ be8 s.mode.zoneSource.code ++
    allChannels.flatMap (fun c => channelBytes (s.sensor c)) ++ be8 s.scan.state.code ++
    allInputs.flatMap (fun r => be8 (s.accepted r).code) ++ be16 s.mode.damper ++
    be16 s.link.rejected ++ be32 s.seconds

/-- The reported fields of an entry that holds none (R48, R207). -/
def Report.absent : Report :=
  { identity := 0, stationState := 0, unitMode := 0, level := 0, ownSensor := false,
    spaceTemp := none, staged := 0, fan := 0, cap := 0, ceiling := 0, offer := 0 }

/-- The claim fields of an entry that holds none (R207). -/
def ClaimPart.absent : ClaimPart :=
  { serial := 0, slotCode := 0, increment := 0, level := 0, intended := 0 }

/-- R49, R207: the reported fields an entry is read with: live for SELF. -/
def State.reportOf (s : State) (e : Entry) : Report :=
  match e.state with
  | .self => s.selfReport
  | _ => e.report.getD Report.absent

/-- R207: the entry record of station n. -/
def State.entryRecord (s : State) (n : Nat) : List Byte :=
  let e := s.entry n
  let r := s.reportOf e
  be8 n ++ be8 e.state.code ++ be32 r.identity ++ be8 r.stationState ++ be8 r.unitMode ++
    be8 r.level ++ be8 (r.ownSensor.toNat + 2 * e.claim.isSome.toNat + 4 * e.mark.toNat) ++
    beTemp r.spaceTemp ++ be16 r.staged ++ be16 r.fan ++ be16 r.cap ++ be16 r.ceiling ++
    be16 r.offer ++ claimBytes (e.claim.getD ClaimPart.absent)

/-- R208: offsets 1 to 18 of the fault record. -/
def faultBytes (r : Option FaultRecord) : List Byte :=
  match r with
  | some r =>
    be8 r.category.number ++ be32 r.seconds ++ be8 r.station.code ++ be8 r.mode.code ++
      stageBytes r.stages ++ beTemp r.zoneTemp ++ beTemp r.supplyTemp ++ be16 r.staged ++
      be8 r.level
  | none =>
    List.replicate 11 0 ++ beTemp none ++ beTemp none ++ List.replicate 3 0

/-- R208: the fault record. -/
def FaultCapture.bytes (f : FaultCapture) : List Byte :=
  be8 (f.record.isSome.toNat + 2 * f.uncaptured.toNat) ++ faultBytes f.record ++ be24 f.later

end Sys2Proof.Machine
end

