-- ==== Sys2Proof/Machine/LinkQueue.lean ====
section
/-! DEFINITION. The transmit queue of the Link Controller and what its requests and frame ends do to
it (R30 to R32, R34, R35, R37), and the receiver's transitions that every frame shares (R25). -/

namespace Sys2Proof.Machine

/-- R30: whether a slot is CURRENT. -/
def Link.busy (l : Link) : Bool :=
  l.leaveSlot == .current || l.shedSlot == .current || l.stateSlot == .current

/-- R30: with no slot CURRENT, the first QUEUED slot in the order LEAVE, SHED, STATE becomes CURRENT
with attempt count 1. -/
def Link.select (l : Link) : Link :=
  if l.busy then l
  else if l.leaveSlot = .queued then { l with leaveSlot := .current, attempts := 1 }
  else if l.shedSlot = .queued then { l with shedSlot := .current, attempts := 1 }
  else if l.stateSlot = .queued then { l with stateSlot := .current, attempts := 1 }
  else l

/-- R35: the backoff count runs while a current frame waits, the link is idle, LNK_DE is released and
the spacing timer is not running; it starts from 0 each time these come to hold. -/
def Link.count (n : Nat) (l : Link) : Link :=
  if l.busy && l.idle && l.spacing.isNone && l.onWire.isNone && !l.cutOff then
    match l.backoff with
    | some _ => l
    | none => { l with backoff := some (backoffSlots n l.attempts) }
  else { l with backoff := none }

/-- Selection and the backoff count, after any change to what they read. -/
def State.serveLink (s : State) : State := { s with link := s.link.select.count s.number }

/-- R31: what a STATE request does to the STATE slot and its marks. -/
def Link.requestState (l : Link) (roll : Bool) : Link :=
  match l.stateSlot with
  | .empty => { l with stateSlot := .queued, roll := roll }
  | .queued => { l with roll := l.roll || roll }
  | .current =>
    match l.onWire with
    | none => { l with roll := l.roll || roll }
    | some w =>
      if w.roll then (if roll then l else { l with again := true })
      else { l with again := true, roll := l.roll || roll }

/-- R31: a STATE request, taken in JOINING, SHARING, ISOLATED, SOLO and SHUTDOWN. -/
def State.requestState (s : State) (roll : Bool := false) : State :=
  if s.station.state.reports then
    State.serveLink { s with link := s.link.requestState roll }
  else s

/-- R32: a SHED request, taken in SHARING. -/
def State.requestShed (s : State) (call : ShedCall) : State :=
  if s.station.state = .sharing then
    match s.link.shedSlot with
    | .current => { s with link.heldShed := some call }
    | _ => State.serveLink { s with link.shedSlot := .queued, link.shedCall := call }
  else s

/-- R31: how the STATE slot is left when its frame is sent or dropped; `rolled` says whether that
frame carried ROLL. -/
def Link.endState (l : Link) (rolled : Bool) : Link :=
  let l := { l with roll := l.roll && !rolled }
  if l.again then { l with stateSlot := .queued, again := false }
  else { l with stateSlot := .empty, roll := false }

/-- R32: how the SHED slot is left when its frame ends: held values are queued. -/
def Link.endShed (l : Link) : Link :=
  match l.heldShed with
  | some call => { l with shedSlot := .queued, shedCall := call, heldShed := none }
  | none => { l with shedSlot := .empty, shedCall := ⟨0, 0⟩ }

/-- R32: how the LEAVE slot is left; the transmitter is turned off. -/
def Link.endLeave (l : Link) : Link := { l with leaveSlot := .empty, txOn := false }

/-- R37: the slot of the current frame left as its kind's rule gives, and the attempt count 0. -/
def Link.endCurrent (l : Link) (rolled : Bool) : Link :=
  let l := { l with attempts := 0, abandoned := false }
  if l.leaveSlot = .current then l.endLeave
  else if l.shedSlot = .current then l.endShed
  else if l.stateSlot = .current then l.endState rolled
  else l

/-- R32: on leaving SHARING the SHED slot is emptied and held values are discarded. A current SHED
on the wire finishes its attempt. -/
def Link.dropShed (l : Link) : Link :=
  let l := { l with heldShed := none }
  match l.shedSlot with
  | .empty => l
  | .queued => { l with shedSlot := .empty, shedCall := ⟨0, 0⟩ }
  | .current =>
    if l.onWire.isSome then { l with abandoned := true }
    else { l with shedSlot := .empty, shedCall := ⟨0, 0⟩, attempts := 0, backoff := none }

/-- R22, R31: on entry to LEFT the STATE slot is emptied with both marks; a current STATE on the wire
finishes its attempt. -/
def Link.dropState (l : Link) : Link :=
  let l := { l with again := false, roll := false }
  match l.stateSlot with
  | .empty => l
  | .queued => { l with stateSlot := .empty }
  | .current =>
    if l.onWire.isSome then { l with abandoned := true }
    else { l with stateSlot := .empty, attempts := 0, backoff := none }

/-- R22, R32, R39: what entry to LEFT does to the Link Controller. -/
def Link.leave (l : Link) : Link :=
  { l.dropShed.dropState with leaveSlot := .queued, report := none }

/-- R24, R34: LNK_DE released and the spacing timer loaded, at the end of an own transmission. -/
def Link.release (l : Link) : Link :=
  { l with onWire := none, cutOff := false, spacing := some spacingTime }

/-- R25, R35: characters are heard: the link is not idle and a backoff count is abandoned. -/
def Link.heard (l : Link) : Link := { l with idle := false, backoff := none }

/-- R41: one rejected frame more, saturating at 65,535. -/
def Link.countRejected (l : Link) : Link := { l with rejected := min 65535 (l.rejected + 1) }

/-- R25: the receiver gives a frame up: DISCARD, and one rejected frame. -/
def Link.abort (l : Link) : Link := { l.heard.countRejected with rx := .discard, afterFrame := false }

/-- R25: a frame is complete: DISCARD, with characters before the next idle still to be counted. -/
def Link.complete (l : Link) : Link := { l.heard with rx := .discard, afterFrame := true }

/-- R25, R42: the receiver can complete a frame: it is on, the own LNK_DE is released, and it is not
in DISCARD. A frame command carries the whole frame, so it may start in HUNT or, its start character
heard already, in COLLECT (log entry 5). -/
def Link.canReceive (l : Link) : Bool :=
  l.rxOn && l.onWire.isNone && !l.cutOff && l.rx != .discard

/-- R38: one consecutive drop more, saturating at 255. -/
def Link.countDrop (l : Link) : Link := { l with drops := min 255 (l.drops + 1) }

end Sys2Proof.Machine
end

