-- ==== Sys2Proof/Machine/Stages.lean ====
section
/-! DEFINITION. The Stage Controller's own operations (chapter 7): starts, stops, trips, the fan proof,
the freeze timers, the start interlocks and the choice of the next stage. What a transition hands on
(the STATE request, the changeover timer, the evaluation) is in Machine/React.lean. -/

namespace Sys2Proof.Machine

/-! ## Leaving the running states -/

/-- R154: the freeze timer of a compressor slot stopped. -/
def StageCtl.clearFreeze (g : StageCtl) : Slot → StageCtl
  | .c1 => { g with freeze1 := none }
  | .c2 => { g with freeze2 := none }
  | .h1 => g
  | .h2 => g

/-- R147, R149, R152: a slot put in a state outside the running ones: the prove and freeze timers
stopped, the slot off the running order list. -/
def StageCtl.takeOut (g : StageCtl) (i : Slot) (r : Stage) : StageCtl :=
  StageCtl.clearFreeze
    { g with slots := g.slots.set i { r with prove := none }
             order := g.order.filter (fun j => j != i) } i

/-- R149: a forced, normal or shed stop of a stage in a running state: OFF_LOCK with its min-off
loaded. It passes over every other stage. -/
def State.stopSlot (s : State) (i : Slot) : State :=
  if s.isRunning i then
    { s with
      stage := s.stage.takeOut i
        { s.slot i with state := .offLock, timer := some (ofSeconds (s.slotConfig i).minOff) } }
  else s

/-- R7: a CLAIMED slot back to READY. -/
def State.unclaimSlot (s : State) (i : Slot) : State :=
  if s.stageState i = .claimed then s.setSlot i { s.slot i with state := .ready } else s

/-- R147: the stops a normal stop test of a side comes to: its RUN_FREE stages, newest first, as many as
the side's running stages exceed its wanted count by. -/
def State.stopsDue (s : State) (d : Side) : List Slot :=
  (s.stage.order.reverse.filter (fun i => sideOf i == d && s.stageState i == .runFree)).take
    (s.runningCount d - s.wanted d)

/-! ## Trips -/

/-- R157: a trip's time added to a history of at most three. -/
def pushTrip (history : List (BitVec 32)) (now : BitVec 32) : List (BitVec 32) :=
  let h := history ++ [now]
  if 3 < h.length then h.drop 1 else h

/-- R157: three times whose newest is at most 3600 s after the oldest, counted on the 32-bit seconds
count, which wraps (log entry 6). -/
def locksOut (history : List (BitVec 32)) : Bool :=
  match history with
  | [oldest, _, newest] => (newest - oldest).toNat ≤ 3600
  | _ => false

/-- R152: a trip of a stage in a running state: TRIPPED, or LOCKED by its history, then the cause
raised, then LOCKOUT. A stage in any other state is not tripped (R156). -/
def State.trip (s : State) (i : Slot) (cause : Category) : State :=
  if s.isRunning i then
    let h := pushTrip (s.slot i).history s.seconds
    let r : Stage :=
      if locksOut h then { s.slot i with state := .locked, timer := none, history := h }
      else { s.slot i with state := .tripped, timer := some tripDelay, history := h }
    let s' := ({ s with stage := s.stage.takeOut i r } : State).raise cause
    if locksOut h then s'.raise .lockout else s'
  else s

/-! ## Compressor circuits -/

/-- The compressor of a circuit. -/
def slotOfCircuit : Circuit → Slot
  | .one => .c1
  | .two => .c2

/-- R154: the coil channel of a circuit. -/
def coilOf : Circuit → Channel
  | .one => .coil1
  | .two => .coil2

/-- R190: the freeze category of a circuit. -/
def freezeCategory : Circuit → Category
  | .one => .freeze1
  | .two => .freeze2

/-- R154: the freeze timer of a circuit. -/
def StageCtl.freeze (g : StageCtl) : Circuit → Timer
  | .one => g.freeze1
  | .two => g.freeze2

/-- R154: the freeze timer of a circuit written. -/
def StageCtl.setFreeze (g : StageCtl) (n : Circuit) (t : Timer) : StageCtl :=
  match n with
  | .one => { g with freeze1 := t }
  | .two => { g with freeze2 := t }

/-- R154: the freeze timer loaded, if it is not running, when compressor n runs with a usable coil
below 10. -/
def State.testFreeze (s : State) (n : Circuit) : State :=
  match s.reading (coilOf n), s.stage.freeze n with
  | some v, none =>
    if s.isRunning (slotOfCircuit n) && v < 10 then
      { s with stage := s.stage.setFreeze n (some freezeTime) }
    else s
  | _, _ => s

/-- R154: what a COILn delivery does: the test, or the stop when the value is 10 or more or the channel
is not usable. -/
def State.coilDelivered (s : State) (n : Circuit) : State :=
  match s.reading (coilOf n) with
  | some v =>
    if v < 10 then s.testFreeze n else { s with stage := s.stage.setFreeze n none }
  | none => { s with stage := s.stage.setFreeze n none }

/-! ## Starts -/

/-- R186: HEAT_PROVE read as active: accepted ACTIVE or unfitted. -/
def State.heatProven (s : State) : Bool :=
  s.accepted .heatProve == .active || s.accepted .heatProve == .unfitted

/-- R145: HEAT_PROVE tested at a heat stage's entry into PROVING. -/
def State.testHeatProve (s : State) (i : Slot) : State :=
  if s.heatProven then s.setSlot i { s.slot i with state := .runLock, prove := none } else s

/-- R143: the start actions of a grant, and the test that follows them for a compressor (R154) and for
a heat stage (R145). -/
def State.startSlot (s : State) (i : Slot) : State :=
  let r : Stage :=
    { s.slot i with state := .proving, timer := some (ofSeconds (s.slotConfig i).minRun),
                    prove := some proveTime }
  let s := { s.setSlot i r with stage.order := s.stage.order ++ [i],
                                stage.interStage := some interStageTime }
  match i with
  | .c1 => s.testFreeze .one
  | .c2 => s.testFreeze .two
  | .h1 => s.testHeatProve .h1
  | .h2 => s.testHeatProve .h2

/-! ## Fan proof -/

/-- R138: what a fan command does to the fan proof. -/
def State.fanCommanded (s : State) (on : Bool) : State :=
  if on then
    match s.stage.fanProof with
    | .idle =>
      if s.accepted .fanProve = .unfitted then { s with stage.fanProof := .proven }
      else { s with stage.fanProof := .waiting, stage.fanProofTimer := some fanProofTime }
    | _ => s
  else { s with stage.fanProof := .idle, stage.fanProofTimer := none }

/-- R138: FAN_PROVE ACTIVATED. -/
def State.fanProveOn (s : State) : State :=
  match s.stage.fanProof with
  | .recovering => { s with stage.fanProof := .proven, stage.fanProofTimer := none }
  | .failed => { s with stage.fanProof := .proven }
  | _ => s

/-- R138: FAN_PROVE DEACTIVATED. -/
def State.fanProveOff (s : State) : State :=
  match s.stage.fanProof with
  | .proven => { s with stage.fanProof := .recovering, stage.fanProofTimer := some fanProofTime }
  | _ => s

/-! ## Interlocks and selection -/

/-- R140: every fitted input is settled. -/
def State.inputsSettled (s : State) : Bool :=
  allInputs.all (fun r => s.accepted r != .unsettled)

/-- R140: C1 is out of service for C2 to lead, or runs for C2 to follow. -/
def State.secondMayStart (s : State) : Bool :=
  match s.stageState .c1 with
  | .proving => true
  | .runLock => true
  | .runFree => true
  | .unfitted => true
  | .tripped => true
  | .locked => true
  | .offLock => false
  | .ready => false
  | .claimed => false

/-- R140: the SUPPLY channel usable or unfitted. -/
def State.supplyAllowsHeat (s : State) : Bool :=
  (s.sensor .supply).state.usable || (s.sensor .supply).state == .unfitted

/-- R140: the start interlocks of a slot. -/
def State.interlocks (s : State) (i : Slot) : Bool :=
  s.inputsSettled &&
  match i with
  | .c1 => s.stage.fanProof == .proven && !s.active .hp1 && s.runningCount .heating == 0
  | .c2 =>
    s.stage.fanProof == .proven && !s.active .hp2 && s.runningCount .heating == 0 &&
      s.secondMayStart
  | .h1 => s.supplyAllowsHeat && s.runningCount .cooling == 0
  | .h2 => s.supplyAllowsHeat && s.runningCount .cooling == 0 && s.isRunning .h1

/-- R80: whether the claimed stage is still wanted. -/
def State.stillWanted (s : State) (i : Slot) : Bool :=
  s.mode.side == (sideOf i).demand && s.runningCount (sideOf i) < s.wanted (sideOf i) &&
    s.interlocks i

/-- R141: the conditions of a selection, but that no request is presented. -/
def State.selectable (s : State) (i : Slot) : Bool :=
  s.runningCount (sideOf i) < s.wanted (sideOf i) && s.stageState i == .ready &&
    s.stage.interStage.isNone && s.interlocks i &&
    allSlots.all (fun j => s.stageState j != .claimed)

/-- R141: a presented request whose conditions no longer hold is taken back, and the first slot that
qualifies is presented. -/
def State.select (s : State) : State :=
  let presented :=
    match s.stage.presented.filter s.selectable with
    | some i => some i
    | none => allSlots.find? s.selectable
  { s with stage.presented := presented }

/-! ## Entry to JOINING -/

/-- R161: a slot at entry to JOINING. -/
def Stage.joining (r : Stage) (cfg : SlotConfig) (delay : Nat) : Stage :=
  if cfg.fitted then
    if r.state = .locked then { r with timer := none, prove := none }
    else { r with state := .offLock, timer := some delay, prove := none }
  else { r with state := .unfitted, timer := none, prove := none }

/-- R161: the Stage Controller at entry to JOINING. -/
def StageCtl.joining (g : StageCtl) (cfg : ConfigRecord) : StageCtl :=
  { StageCtl.start with
    slots := PerSlot.of (fun i =>
      (g.slots.get i).joining (cfg.slots.get i) (powerReturnDelay cfg.station)) }

end Sys2Proof.Machine
end

