-- ==== Sys2Proof/Machine/ModeForm.lean ====
section
/-! DEFINITION. The evaluation of the Mode Logic (R108): the quantities of chapter 6 formed in the
order the rule gives, each from the values as they stand, those formed earlier in the same
evaluation included. What an evaluation hands on is in Machine/React.lean. -/

namespace Sys2Proof.Machine

/-- R108: what in the cause of an evaluation changes how it forms its quantities. -/
inductive EvalCause where
  | plain
  | neighbourUpdate
  | offDelayExpiry
  | damperStep
  deriving DecidableEq, Repr

/-! ## Zone temperature (6.3) -/

/-- R109: the space temperatures of the contributing entries. -/
def State.contributing (s : State) : List Int :=
  s.table.entries.toList.filterMap (fun e =>
    match e.state, e.mark, e.report with
    | .fresh, true, some r => if r.ownSensor then r.spaceTemp else none
    | _, _, _ => none)

/-- R110: the mean rounded to the nearest tenth, a half upward. -/
def neighbourAverage (temps : List Int) : Option Int :=
  match temps with
  | [] => none
  | _ => some ((2 * temps.sum + temps.length) / (2 * temps.length))

/-- R109: the zone temperature and its source. -/
def State.zoneReading (s : State) : Option Int × ZoneSource :=
  match s.reading .zone with
  | some v => (some v, .own)
  | none =>
    match if s.station.state = .config then none else neighbourAverage s.contributing with
    | some v => (some v, .neighbours)
    | none => (none, .none)

/-! ## Setpoints, errors, side and level (6.4) -/

/-- R111: occupied, unless OCC is fitted and accepted INACTIVE. -/
def State.occupied (s : State) : Bool := s.accepted .occ != .inactive

/-- R111: the cool setpoint in force. -/
def State.coolSetpoint (s : State) : Int :=
  if s.occupied then s.cfg.coolSetpoint else s.cfg.coolSetpoint + s.cfg.setback

/-- R111: the heat setpoint in force. -/
def State.heatSetpoint (s : State) : Int :=
  if s.occupied then s.cfg.heatSetpoint else s.cfg.heatSetpoint - s.cfg.setback

/-- R112: e_cool, none without a zone temperature. -/
def State.coolError (s : State) (m : ModeLogic) : Option Int :=
  m.zoneTemp.map (fun t => t - s.coolSetpoint)

/-- R112: e_heat, none without a zone temperature. -/
def State.heatError (s : State) (m : ModeLogic) : Option Int :=
  m.zoneTemp.map (fun t => s.heatSetpoint - t)

/-- R112: the demand side and its error. -/
def demandOf (eCool eHeat : Option Int) : DemandSide × Int :=
  match eCool, eHeat with
  | some c, some h => if 0 < c then (.cooling, c) else if 0 < h then (.heating, h) else (.none, 0)
  | _, _ => (.none, 0)

/-- R113: the demand level of an error. -/
def levelOf (e hardBand : Int) : Nat :=
  if e < 5 then 0 else if e < hardBand then min 6 (1 + (e.toNat - 5) / 5) else 7

/-- R109 to R113: zone temperature, source, demand side and demand level formed. -/
def State.formDemand (s : State) (m : ModeLogic) : ModeLogic :=
  let z := s.zoneReading
  let m := { m with zoneTemp := z.1, zoneSource := z.2 }
  let d := demandOf (s.coolError m) (s.heatError m)
  { m with side := d.1, level := levelOf d.2 s.cfg.hardBand }

/-! ## Calls and economizer availability (6.5, R117) -/

/-- R115: a call with its two thresholds; a zone temperature of none clears it. -/
def callOf (before : Bool) (e : Option Int) (setAt clearAt : Int) : Bool :=
  match e with
  | none => false
  | some e => if setAt ≤ e then true else if e ≤ clearAt then false else before

/-- R115: the four calls formed. -/
def State.formCalls (s : State) (m : ModeLogic) : ModeLogic :=
  { m with
    cool1 := callOf m.cool1 (s.coolError m) 5 0
    cool2 := callOf m.cool2 (s.coolError m) 15 8
    heat1 := callOf m.heat1 (s.heatError m) 5 0
    heat2 := callOf m.heat2 (s.heatError m) 15 8 }

/-- R117: the economizer is available. -/
def State.economizerAvailable (s : State) : Bool :=
  s.cfg.econEnable &&
  match s.reading .outdoor, s.reading .ret, s.reading .supply with
  | some o, some r, some _ => o < s.cfg.econLimit && o ≤ r - 10
  | _, _, _ => false

/-! ## Neighbours (R120, R124, R125) -/

/-- The side a unit mode is on (R118). -/
def UnitMode.side : UnitMode → Option Side
  | .heat => some .heating
  | .cool => some .cooling
  | .econ => some .cooling
  | .off => none
  | .vent => none

/-- The mode a grant on a side gives (R119, R125). -/
def Side.mode : Side → UnitMode
  | .cooling => .cool
  | .heating => .heat

/-- R124: whether a reported unit mode code is on the side opposite `d`. -/
def opposes (d : Side) (code : Nat) : Bool :=
  match d with
  | .cooling => code == 4
  | .heating => code == 3 || code == 2

/-- R124: a FRESH marked entry opposite and more urgent, or as urgent with a lower station number. -/
def State.boundToYield (s : State) (m : ModeLogic) (d : Side) : Bool :=
  s.numbered.any (fun p =>
    match p.2.state, p.2.mark, p.2.report with
    | .fresh, true, some r =>
      opposes d r.unitMode &&
        (m.level < r.level || (r.level == m.level && p.1 < s.number))
    | _, _, _ => false)

/-- R125: some FRESH or STALE marked entry reports a mode on the side opposite `d`. -/
def State.opposed (s : State) (d : Side) : Bool :=
  s.table.entries.toList.any (fun e =>
    match e.state.heard, e.mark, e.report with
    | true, true, some r => opposes d r.unitMode
    | _, _, _ => false)

/-- R120: some FRESH or STALE marked entry reports HEAT or holds a claim with intended mode HEAT. -/
def State.neighbourHeats (s : State) : Bool :=
  s.table.entries.toList.any (fun e =>
    e.state.heard && e.mark &&
      ((e.report.map Report.unitMode) == some 4 || (e.claim.map ClaimPart.intended) == some 4))

/-! ## Unit mode (6.6) -/

/-- The first-stage call of a side. -/
def ModeLogic.firstCall (m : ModeLogic) : Side → Bool
  | .cooling => m.cool1
  | .heating => m.heat1

/-- R123: the changeover timer loaded with a side. -/
def ModeLogic.loadChangeover (m : ModeLogic) (d : Side) : ModeLogic :=
  { m with changeover := some changeoverTime, changeoverSide := d }

/-- R123: whether the running changeover timer blocks a side. -/
def ModeLogic.blocked (m : ModeLogic) (d : Side) : Bool :=
  m.changeover.isSome && m.changeoverSide == d.opposite

/-- R124: the yield test of a neighbour update. -/
def State.yieldTest (s : State) (m : ModeLogic) : ModeLogic :=
  match m.mode.side, m.yieldHold with
  | some d, none =>
    if s.station.state.working && m.level < 7 && s.boundToYield m d then
      { m.loadChangeover d with yieldHold := some d, mode := .off }
    else m
  | _, _ => m

/-- R125: the end of a yield hold. -/
def State.yieldEnd (s : State) (m : ModeLogic) : ModeLogic :=
  match m.yieldHold with
  | none => m
  | some d =>
    if s.station.state.working && (m.level == 7 || !s.opposed d) then
      if 0 < s.runningCount d && m.firstCall d then { m with yieldHold := none, mode := d.mode }
      else { m with yieldHold := none }
    else m

/-- R120: ECON may be entered. -/
def State.econEntry (s : State) (m : ModeLogic) : Bool :=
  m.cool1 && m.econAvailable && s.runningCount .cooling == 0 && !m.blocked .cooling &&
    m.yieldHold != some .cooling && !s.neighbourHeats

/-- R121, case 3: the economizer has been fully open without enough. -/
def State.econSpent (s : State) (m : ModeLogic) : Bool :=
  m.fullOpen == .expired && m.damper == 1000 &&
    match s.coolError m with
    | some e => 5 ≤ e
    | none => false

/-- R118, R120 to R122: the unit mode; a mode on no side stands as OFF until it is named. -/
def State.formUnitMode (s : State) (m : ModeLogic) : ModeLogic :=
  if s.station.state.working then
    match m.mode with
    | .econ =>
      if !m.cool1 || !m.econAvailable then { m.loadChangeover .cooling with mode := .off }
      else if s.econSpent m then { m with mode := .cool }
      else m
    | .cool =>
      if !m.cool1 && s.runningCount .cooling == 0 then { m with mode := .off } else m
    | .heat =>
      if !m.heat1 && s.runningCount .heating == 0 then { m with mode := .off } else m
    | .off | .vent =>
      if s.econEntry m then
        { m with
          mode := .econ
          fullOpen := if m.damper = 1000 then .running fullOpenTime else .stopped }
      else m
  else { m with mode := .off }

/-! ## Wanted counts, fan, damper (6.5, 6.7, 6.8) -/

/-- R116: the wanted count of a side. -/
def State.wantedOf (s : State) (m : ModeLogic) (d : Side) (first second : Bool) : Nat :=
  if !s.station.state.working || m.blocked d || m.yieldHold == some d ||
      (d == .cooling && m.mode == .econ) then 0
  else first.toNat + second.toNat

/-- R116: both wanted counts formed. -/
def State.formWanted (s : State) (m : ModeLogic) : ModeLogic :=
  { m with
    wantedCool := s.wantedOf m .cooling m.cool1 m.cool2
    wantedHeat := s.wantedOf m .heating m.heat1 m.heat2 }

/-- R126: a stage in CLAIMED or a running state. -/
def State.stageNeedsFan (s : State) : Bool :=
  allSlots.any (fun i => s.isRunning i || s.stageState i == .claimed)

/-- R126: the fan demand of the working states. -/
def State.fanDemand (s : State) (m : ModeLogic) : Bool :=
  s.occupied || 0 < m.wantedCool || 0 < m.wantedHeat || s.stageNeedsFan || m.mode == .econ

/-- R126, R127: the fan command and the off-delay timer. -/
def State.formFan (s : State) (cause : EvalCause) (m : ModeLogic) : ModeLogic :=
  if s.station.state.working then
    if s.fanDemand m then { m with fan := true, offDelay := none }
    else if m.fan then
      if cause = .offDelayExpiry then { m with fan := false, offDelay := none }
      else { m with offDelay := some (m.offDelay.getD offDelayTime) }
    else m
  else { m with fan := false, offDelay := none }

/-- R118: a mode on no side named VENT or OFF by the fan command. -/
def ModeLogic.name (m : ModeLogic) : ModeLogic :=
  match m.mode.side with
  | some _ => m
  | none => { m with mode := if m.fan then .vent else .off }

/-- R128: the economizer law, truncated toward zero and clamped. -/
def damperLaw (cfg : ConfigRecord) (supply : Int) : Nat :=
  let p : Int := cfg.damperMin + ((supply - cfg.satTarget) * cfg.gain).tdiv 10
  (max (cfg.damperMin : Int) (min 1000 p)).toNat

/-- R128: the damper target. -/
def State.targetOf (s : State) (m : ModeLogic) : Nat :=
  if m.fan then
    if m.mode = .econ ∨ (m.mode = .cool ∧ m.econAvailable) then
      damperLaw s.cfg ((s.reading .supply).getD 0)
    else if s.occupied then s.cfg.damperMin else 0
  else 0

/-- R128 to R130: the damper target, the command 0 while the fan is off, and the full-open timer
stopped outside ECON and while the fan is off. -/
def State.formDamper (s : State) (m : ModeLogic) : ModeLogic :=
  { m with
    damperTarget := s.targetOf m
    damper := if m.fan then m.damper else 0
    fullOpen := if m.mode = .econ ∧ m.fan then m.fullOpen else .stopped }

/-- R129, R130: the damper step, at most 20 toward the target; reaching 1000 in ECON loads the
full-open timer and falling below it stops it. -/
def ModeLogic.damperStep (m : ModeLogic) : ModeLogic :=
  let next :=
    if m.damper ≤ m.damperTarget then min m.damperTarget (m.damper + 20)
    else max m.damperTarget (m.damper - 20)
  let fullOpen :=
    if next < 1000 then .stopped
    else if m.mode = .econ ∧ m.damper < 1000 then .running fullOpenTime
    else m.fullOpen
  { m with damper := next, fullOpen := fullOpen }

/-- R108: one evaluation. In CONFIG the zone temperature, the demand side and the demand level alone
are formed (R133). -/
def State.formMode (s : State) (cause : EvalCause) : ModeLogic :=
  let m := s.formDemand s.mode
  if s.station.state = .config then m
  else
    let m := s.formCalls m
    let m := { m with econAvailable := s.economizerAvailable }
    let m := if cause = .neighbourUpdate then s.yieldTest m else m
    let m := s.formUnitMode (s.yieldEnd m)
    let m := s.formWanted m
    let m := (s.formFan cause m).name
    let m := s.formDamper m
    if cause = .damperStep then m.damperStep else m

end Sys2Proof.Machine
end

