-- ==== Sys2Proof/Machine/React.lean ====
section
/-! DEFINITION. What one event sets off across the blocks: the evaluation and what it hands on (R108,
R114, R116, R126), the reports of stage transitions (R137), the selection of the next stage (R141),
the Admission Unit's taking of a start request and its decisions (R70 to R79), and the wrapper every
command of a powered part goes through. The order in which the blocks are served is log entry 8. -/

namespace Sys2Proof.Machine

/-! ## Evaluation and its hand-on -/

/-- R72: the denial count when the demand side changes or the demand level becomes 0. -/
def State.handDemand (s : State) (before : ModeLogic) : State :=
  if s.mode.side ≠ before.side ∨ (s.mode.level = 0 ∧ before.level ≠ 0) then
    { s with adm.denials := 0 }
  else s

/-- R126, R138: a changed fan command delivered to the Stage Controller. -/
def State.handFan (s : State) (before : ModeLogic) : State :=
  if s.mode.fan = before.fan then s else s.fanCommanded s.mode.fan

/-- R40, R108: one STATE requested for a changed unit mode, demand level or fan command. -/
def State.handReport (s : State) (before : ModeLogic) : State :=
  if s.mode.mode = before.mode ∧ s.mode.level = before.level ∧ s.mode.fan = before.fan then s
  else s.requestState

/-- R108: one evaluation, handed on to the Admission Unit, the fan proof and the Link Controller. -/
def State.evaluateOnce (s : State) (cause : EvalCause) : State :=
  let before := s.mode
  (((({ s with mode := s.formMode cause } : State).handDemand before).handFan before).handReport
    before)

/-- R137, R123: what stage transitions since `before` hand on ahead of the evaluation: the STATE
request of a changed staged load, and the changeover timer of a side whose last stage stopped. -/
def State.reportStages (s before : State) : State :=
  let last (d : Side) : Bool := 0 < before.runningCount d && s.runningCount d == 0
  let s := if last .cooling then { s with mode := s.mode.loadChangeover .cooling } else s
  let s := if last .heating then { s with mode := s.mode.loadChangeover .heating } else s
  if s.stagedLoad = before.stagedLoad then s else s.requestState

/-- R137, R108: a transition since `before` handed on when it is complete, with the evaluation its
report brings. -/
def State.reportMove (s before : State) : State :=
  if s.stageStates = before.stageStates then s else (s.reportStages before).evaluateOnce .plain

/-- R137: one event's transitions of several slots, each reported as it completes. -/
def State.moveEach (s : State) (move : State → Slot → State) (slots : List Slot) : State :=
  slots.foldl (fun s i => (move s i).reportMove s) s

/-- R116, R147: the stops due on the sides whose wanted count is no longer the one last tested. -/
def State.stopsFor (s : State) (tested : ModeLogic) : List Slot :=
  (if s.mode.wantedCool = tested.wantedCool then [] else s.stopsDue .cooling) ++
    (if s.mode.wantedHeat = tested.wantedHeat then [] else s.stopsDue .heating)

/-- R116, R147: the normal stop tests of changed wanted counts, each stop reported, and the tests of the
counts its evaluation changes in turn. A round that does not end it stops at least one of the four
stages. -/
def State.serveWanted : Nat → ModeLogic → State → State
  | 0, _, s => s
  | fuel + 1, tested, s =>
    match s.stopsFor tested with
    | [] => s
    | stops => State.serveWanted fuel s.mode (s.moveEach State.stopSlot stops)

/-- R108: the evaluation of an event, and the normal stops its wanted counts bring. -/
def State.evaluate (s : State) (cause : EvalCause := .plain) : State :=
  State.serveWanted 4 s.mode (s.evaluateOnce cause)

/-- R137: the one transition an event made since `before` handed on, if it made one. -/
def State.stagesMoved (s before : State) : State :=
  State.serveWanted 4 s.mode (s.reportMove before)

/-- R137: an event's transitions of several slots, and then the normal stops they bring (log entry 8). -/
def State.moveAll (s : State) (move : State → Slot → State) (slots : List Slot) : State :=
  State.serveWanted 4 s.mode (s.moveEach move slots)

/-! ## Deciding a start request (chapter 4) -/

/-- R71: the claim level. -/
def claimLevel (d c : Nat) : Nat := if d = 7 then 7 else min 6 (d + c / 2)

/-- R77: the intended mode of a start: a mode entry when no stage of its side runs. -/
def State.intendedFor (s : State) (i : Slot) : Intended :=
  if s.runningCount (sideOf i) = 0 then
    match sideOf i with
    | .cooling => .cool
    | .heating => .heat
  else .none

/-- R119: a grant's intended mode sets the unit mode; a change of mode requests a STATE, and leaving
ECON stops the full-open timer (R121, R130). -/
def State.grantMode (s : State) (intended : Intended) : State :=
  let set (m : UnitMode) : State :=
    if s.mode.mode = m then s
    else State.requestState { s with mode.mode := m, mode.fullOpen := .stopped }
  match intended with
  | .none => s
  | .cool => set .cool
  | .heat => set .heat

/-- R74, R83: a grant: c set to 0, the stage started, the mode set. -/
def State.grant (s : State) (i : Slot) (intended : Intended) : State :=
  (({ s with adm.denials := 0, stage.presented := none } : State).startSlot i).grantMode intended

/-- R79, R84, R85: a denial: c incremented, HOLDOFF with the duration of the denied level. -/
def State.deny (s : State) (level : Nat) : State :=
  { s with
    adm.denials := min 255 (s.adm.denials + 1)
    adm.state := .holdoff
    adm.holdoff := some (holdoffTime level s.number) }

/-- R74, R75: a decision against a local limit. -/
def State.decideLocal (s : State) (i : Slot) (level : Nat) (counted limit : Nat) : State :=
  let intended := s.intendedFor i
  let s := { s with adm.headroom := (limit : Int) - counted }
  if counted + s.increment i ≤ limit then s.grant i intended else s.deny level

/-- R77: a claim opened. -/
def State.openClaim (s : State) (i : Slot) (level : Nat) : State :=
  let serial := s.adm.lastSerial + 1
  let claim : OpenClaim :=
    { serial := serial, slot := i, increment := s.increment i, level := level,
      intended := s.intendedFor i }
  State.requestState
    { s.setSlot i { s.slot i with state := .claimed } with
      adm.lastSerial := serial
      adm.claim := some claim
      adm.settle := some settleTime
      adm.state := .settling
      stage.presented := none }

/-- R78: a shed call. -/
def State.callShed (s : State) (level needed : Nat) : State :=
  State.requestShed
    { s with
      adm.shedSpacing := some shedSpacingTime
      adm.holdoff := some shedWaitTime
      adm.state := .shedWait }
    ⟨level, needed⟩

/-- R76: the pre-check in SHARING. -/
def State.preCheck (s : State) (i : Slot) (level : Nat) : State :=
  let taken := s.base + s.heldTotal
  let need := s.increment i
  let s := { s with adm.headroom := (s.table.ceiling : Int) - taken }
  if taken + need ≤ s.table.ceiling then s.openClaim i level
  else if s.cfg.shedThreshold ≤ level ∧ s.adm.shedSpacing.isNone then
    s.callShed level (taken + need - s.table.ceiling)
  else s.deny level

/-- R70, R73: a presented request taken, if the unit is IDLE, the station works and the demand level
is 1 or more, and decided by station state. -/
def State.takeRequest (s : State) : State :=
  match s.stage.presented with
  | none => s
  | some i =>
    if s.adm.state = .idle ∧ 1 ≤ s.mode.level then
      let level := claimLevel s.mode.level s.adm.denials
      let s' := { s with adm.lastLevel := level }
      match s.station.state with
      | .sharing => s'.preCheck i level
      | .isolated => s'.decideLocal i level s.stagedLoad s.cfg.cap
      | .solo => s'.decideLocal i level (s.stagedLoad + s.fanLoad) s.cfg.ceiling
      | .config => s
      | .joining => s
      | .shutdown => s
      | .left => s
    else s

/-- R70, R141: selection, the taking of the presented request, the report of what it moved, and the
selection that follows. At most one request is taken at one event: every decision leaves the unit out
of IDLE or the inter-stage timer running. -/
def State.serveStarts (s : State) : State :=
  let s1 := s.select
  (s1.takeRequest.stagesMoved s1).select

/-! ## One command -/

/-- R94: a changed offer requests a STATE. -/
def State.reportOffer (s before : State) : State :=
  if s.offer = before.offer then s else s.requestState

/-- R141, R94: what follows every event that can move the plant: start requests served and a changed
offer reported. -/
def State.settleStarts (s before : State) : State := s.serveStarts.reportOffer before

/-- The end of every event that can move the plant, with the pins driven. -/
def State.settleInto (s before : State) : State := (s.settleStarts before).drivePins

/-- A command of the part that can move the plant. It acts while the part is powered (R9) and when the
event it names can occur; otherwise nothing changes (log entry 4). -/
def State.event (s : State) (occurs : Bool) (effect : State → State) :
    Host.Outcome State Fault Refusal :=
  .next (if s.powered && occurs then (effect s).settleInto s else s)

/-- Such a command with a raise that waits until the handling of every block, a start it brings
included, is complete (R184, R185). -/
def State.eventThen (s : State) (occurs : Bool) (effect raise : State → State) :
    Host.Outcome State Fault Refusal :=
  .next (if s.powered && occurs then (raise ((effect s).settleStarts s)).drivePins else s)

/-- A command of the part that reaches neither the plant nor a pin. -/
def State.innerEvent (s : State) (occurs : Bool) (effect : State → State) :
    Host.Outcome State Fault Refusal :=
  .next (if s.powered && occurs then effect s else s)

/-- A command of the part that reaches no plant block: no start is served and only the pins follow. -/
def State.quietEvent (s : State) (occurs : Bool) (effect : State → State) :
    Host.Outcome State Fault Refusal :=
  .next (if s.powered && occurs then (effect s).drivePins else s)

end Sys2Proof.Machine
end

