-- ==== Sys2Proof/Machine/Station.lean ====
section
/-! DEFINITION. Station control (chapter 1): entry into each station state with the effects R7 gives at
the other blocks, drops and duplicates, the end of isolation, and both restarts. Each entry ends with
the Mode Logic's evaluation; the raises that belong to an entry follow it (log entry 9). -/

namespace Sys2Proof.Machine

/-- R4, R32: the station state and isolation cause set; leaving SHARING empties the SHED slot. -/
def State.setStation (s : State) (new : StationState) (cause : IsolationCause) : State :=
  let s' := { s with station.state := new, station.cause := cause }
  if s.station.state = .sharing ∧ new ≠ .sharing then { s' with link := s'.link.dropShed } else s'

/-- R15, R150: running stages stopped, the newest first, until the staged load fits the fallback
cap. -/
def State.stopToCap (s : State) : State :=
  s.moveEach (fun s i => if s.cfg.cap < s.stagedLoad then s.stopSlot i else s) s.stage.order.reverse

/-- R150: every stage in a running state stopped. -/
def State.stopAll (s : State) : State := s.moveEach State.stopSlot allSlots

/-- R7, R88, R90: an open claim withdrawn, HOLDOFF or SHED_WAIT ended, the unit IDLE, and a CLAIMED slot
back in READY. -/
def State.admissionIdle (s : State) : State :=
  ({ s with
      adm.state := .idle, adm.claim := none, adm.settle := none, adm.holdoff := none } :
    State).moveEach State.unclaimSlot allSlots

/-- R108, R147: the evaluation that a change of station state brings once the other blocks have acted on
it, and the normal stop tests of the wanted counts changed since `before`. -/
def State.entered (s before : State) : State :=
  State.serveWanted 4 before.mode (s.evaluateOnce .plain)

/-- R15: entry into ISOLATED from another station state. -/
def State.enterIsolated (s : State) (cause : IsolationCause) : State :=
  let s1 := (s.setStation .isolated cause).stopToCap.admissionIdle.requestState.entered s
  match cause with
  | .silent => s1.raise .linkSilent
  | _ => s1

/-- R21: entry into SHUTDOWN. -/
def State.enterShutdown (s : State) : State :=
  (s.setStation .shutdown .none).stopAll.admissionIdle.requestState.entered s

/-- R22, R39: entry into LEFT. -/
def State.enterLeft (s : State) : State :=
  let s1 := (s.setStation .left .none).stopAll.admissionIdle
  (State.serveLink { s1 with link := s1.link.leave }).entered s

/-- R7, R19: entry into SHARING or SOLO. -/
def State.enterWorking (s : State) (new : StationState) : State :=
  (s.setStation new .none).admissionIdle.requestState.entered s

/-- R12, R24, R39, R65, R132, R161: entry into JOINING with the record `cfg` held. -/
def State.enterJoining (s : State) (cfg : ConfigRecord) : State :=
  let s1 :=
    { s with
      station.state := .joining
      station.cause := .none
      station.join := some joinTime
      station.silence := none
      link.rxOn := true
      link.txOn := true
      link.rx := .discard
      link.afterFrame := false
      link.idle := false
      link.report := some reportPeriod
      table := RoofTable.joining cfg
      stage := s.stage.joining cfg
      mode :=
        { ModeLogic.start with
          zoneTemp := s.mode.zoneTemp, zoneSource := s.mode.zoneSource, side := s.mode.side,
          level := s.mode.level, damperTimer := some damperPeriod } }
  (s1.requestState true).evaluate

/-! ## Isolation -/

/-- R19: in ISOLATED with cause SILENT or TRANSMIT, to SHARING when the condition holds. -/
def State.returnToSharing (s : State) (holds : Bool) : State :=
  if s.station.state = .isolated ∧ (s.station.cause = .silent ∨ s.station.cause = .transmit) ∧
      holds = true
  then s.enterWorking .sharing
  else s

/-- R14, R19, R44: what every valid frame from another station does at station control. -/
def State.hearOther (s : State) : State :=
  State.returnToSharing { s with station.silence := some silenceTime } (s.link.drops == 0)

/-- R17: a drop reported with its new count. -/
def State.dropReported (s : State) : State :=
  if dropLimit ≤ s.link.drops then
    let s' : State :=
      match s.station.state with
      | .sharing => s.enterIsolated .transmit
      | .isolated =>
        if s.station.cause = .silent then { s with station.cause := .transmit } else s
      | .config => s
      | .joining => s
      | .solo => s
      | .shutdown => s
      | .left => s
    s'.raise .linkTx
  else s

/-- R18: a duplicate detection. In ISOLATED with another cause only the cause changes (R7, R15). -/
def State.duplicateFound (s : State) : State :=
  let latched : State := { s with station.duplicate := true }
  match s.station.state with
  | .joining =>
    (State.enterIsolated { latched with station.join := none } .duplicate).raise .duplicate
  | .sharing => (latched.enterIsolated .duplicate).raise .duplicate
  | .solo => (latched.enterIsolated .duplicate).raise .duplicate
  | .isolated => ({ latched with station.cause := .duplicate } : State).raise .duplicate
  | .shutdown => latched.raise .duplicate
  | .left => s
  | .config => s

/-- R13: the decision at join expiry. -/
def State.joinDecision (s : State) : State :=
  if s.active .smoke then s.enterShutdown
  else if s.cfg.roofSize = 1 then s.enterWorking .solo
  else if dropLimit ≤ s.link.drops then s.enterIsolated .transmit
  else if s.anyFresh then s.enterWorking .sharing
  else s.enterIsolated .silent

/-- R21: SMOKE DEACTIVATED in SHUTDOWN. -/
def State.leaveShutdown (s : State) : State :=
  if s.station.duplicate then s.enterIsolated .duplicate
  else if s.cfg.roofSize = 1 then s.enterWorking .solo
  else if dropLimit ≤ s.link.drops then s.enterIsolated .transmit
  else if s.station.silence.isNone then s.enterIsolated .silent
  else s.enterWorking .sharing

/-- R21, R185: SMOKE active at station control. -/
def State.smokeActive (s : State) : State :=
  if s.station.state.working then s.enterShutdown else s

/-! ## Restart -/

/-- R178: an external channel after a restart. -/
def Sensor.restart (c : Sensor) : Sensor :=
  { Sensor.start with
    state := if c.state = .unfitted then .unfitted else .unseen, raw := c.raw }

/-- R178: the scanner after a restart. -/
def Scanner.restart (n : Scanner) : Scanner :=
  { Scanner.start with
    sensors := PerChannel.of (fun c => (n.sensors.get c).restart)
    refHigh := n.refHigh
    refLow := n.refLow }

/-- R187, R188: an input set afresh from its settings. -/
def Input.afresh (c : InputConfig) : Input :=
  if c.fitted then
    { accepted := .unsettled, candidate := none, streak := 0,
      timer := some (sampleInterval c.filter) }
  else Input.start

/-- R187, R188: every input set afresh. -/
def inputsAfresh (cfg : ConfigRecord) : PerInput Input :=
  PerInput.of (fun r => Input.afresh (cfg.inputs.get r))

/-- R161: what a restart keeps of the Stage Controller: LOCKED stages and trip histories. -/
def StageCtl.restart (g : StageCtl) : StageCtl :=
  { StageCtl.start with
    slots := PerSlot.of (fun i =>
      let r := g.slots.get i
      { state := if r.state = .locked then .locked else .unfitted
        timer := none, prove := none, history := r.history }) }

/-- R11, R34, R46: the Link Controller after a restart; a frame on the wire is cut off and LNK_DE stays
asserted until its character in progress ends. -/
def Link.restart (l : Link) : Link :=
  { Link.start with cutOff := l.onWire.isSome || l.cutOff }

/-- R11: both restarts. Kept: the record, the Fault Capture, trip histories, LOCKED stages, the
seconds count. -/
def State.doRestart (s : State) : State :=
  let s1 : State :=
    { s with
      station := .start
      link := s.link.restart
      table := .start
      adm := .start
      mode := .start
      stage := s.stage.restart
      scan := s.scan.restart
      inputs := inputsAfresh s.cfg
      svc := .start }
  match s.config with
  | some cfg => s1.enterJoining cfg
  | none => s1

end Sys2Proof.Machine
end

