-- ==== Sys2Proof/Machine/AdmissionCommands.lean ====
section
/-! DEFINITION. The commands of the Admission Unit (chapter 4): the settle, holdoff, shed wait and shed
spacing timers. -/

namespace Sys2Proof.Machine

/-- R81: whether the claim part held in station n's entry is ahead of a claim of this level at station
`own`. -/
def ClaimPart.ahead (p : ClaimPart) (n level own : Nat) : Bool :=
  level < p.level || (p.level == level && n < own)

/-- R81: the sum of the increments of the held claims that are ahead. -/
def State.aheadTotal (s : State) (level : Nat) : Nat :=
  (s.numbered.map (fun e =>
    match e.2.claim with
    | some p => if p.ahead e.1 level s.number then p.increment else 0
    | none => 0)).sum

/-- R82: the intended mode code a neighbour's ahead claim would conflict with. -/
def conflictIntended : Intended → Option Nat
  | .cool => some 4
  | .heat => some 3
  | .none => none

/-- R82: whether one marked FRESH or STALE entry conflicts with the own claim. -/
def State.entryConflicts (s : State) (c : OpenClaim) (n : Nat) (e : Entry) : Bool :=
  e.state.heard && e.mark &&
    ((match c.intended, e.report with
      | .cool, some r => r.unitMode == 4
      | .heat, some r => r.unitMode == 3 || r.unitMode == 2
      | _, _ => false) ||
     (match e.claim with
      | some p => p.ahead n c.level s.number && some p.intended == conflictIntended c.intended
      | none => false))

/-- R82: a mode conflict, looked for with an intended mode and a demand level below 7. -/
def State.modeConflict (s : State) (c : OpenClaim) : Bool :=
  c.intended != .none && s.mode.level < 7 &&
    s.numbered.any (fun e => s.entryConflicts c e.1 e.2)

/-- R81: whether the claim is granted. -/
def State.claimFits (s : State) (c : OpenClaim) : Bool :=
  s.base + s.aheadTotal c.level + c.increment ≤ s.table.ceiling && !s.modeConflict c

/-- R69: the claim closed, the unit IDLE, which requests a STATE. -/
def State.closeClaim (s : State) : State :=
  State.requestState { s with adm.claim := none, adm.settle := none, adm.state := .idle }

/-- R80: the claimed slot back to READY. -/
def State.readySlot (s : State) (i : Slot) : State :=
  s.setSlot i { s.slot i with state := .ready }

/-- R80, R81, R83, R84: the end of the settle of the open claim. A denial is counted before the
evaluation that the slot's return to READY brings, an order R84 leaves open (DESIGN CHOICE, log
entry 8). -/
def State.settleClaim (s : State) (c : OpenClaim) : State :=
  if !s.stillWanted c.slot then (s.closeClaim.readySlot c.slot).stagesMoved s
  else if s.claimFits c then (s.closeClaim.grant c.slot c.intended).stagesMoved s
  else ((s.closeClaim.readySlot c.slot).deny c.level).stagesMoved s

/-- SETTLE_EXPIRY (R80). -/
def execSettleExpiry (s : State) : Host.Outcome State Fault Refusal :=
  match s.adm.claim with
  | some c =>
    s.event (s.adm.settle.isSome && s.adm.state == .settling) (fun s => s.settleClaim c)
  | none => .next s

/-- HOLDOFF_EXPIRY (R85): back to IDLE, and a presented request may be taken. -/
def execHoldoffExpiry (s : State) : Host.Outcome State Fault Refusal :=
  s.event (s.adm.holdoff.isSome && s.adm.state == .holdoff)
    (fun s => { s with adm.holdoff := none, adm.state := .idle })

/-- SHED_WAIT_EXPIRY (R78, R86): back to IDLE, and the request is taken afresh. -/
def execShedWaitExpiry (s : State) : Host.Outcome State Fault Refusal :=
  s.event (s.adm.holdoff.isSome && s.adm.state == .shedWait)
    (fun s => { s with adm.holdoff := none, adm.state := .idle })

/-- SHED_SPACING_EXPIRY (R87): a pre-check may call for a shed again. -/
def execShedSpacingExpiry (s : State) : Host.Outcome State Fault Refusal :=
  s.innerEvent s.adm.shedSpacing.isSome (fun s => { s with adm.shedSpacing := none })

end Sys2Proof.Machine
end

