-- ==== Sys2Proof/Machine/LifeCommands.lean ====
section
/-! DEFINITION. The commands of station life: supply, restart, the seconds count, and the join and
silence timers (chapter 1). -/

namespace Sys2Proof.Machine

/-- POWER_UP (R8): every block at its power-up value. What is fixed at manufacture and the model's own
queue stay. -/
def execPowerUp (s : State) : Host.Outcome State Fault Refusal :=
  .next { State.reset with serial := s.serial, pending := s.pending }

/-- SUPPLY_OUT_OF_RANGE (R9): the part stops running and every output is held low, the two serial lines
with the frame either was sending (log entry 10). -/
def execSupplyOutOfRange (s : State) : Host.Outcome State Fault Refusal :=
  .next { s with
    powered := false
    link.onWire := none
    link.cutOff := false
    svc.buffer := .empty
    pins := Pins.low }

/-- RESTART (R11): a falling edge on the RESTART line, taken in every station state. -/
def execRestart (s : State) : Host.Outcome State Fault Refusal := s.event true State.doRestart

/-- SECONDS_TICK (R23): the 32-bit seconds count, which wraps. -/
def execSecondsTick (s : State) : Host.Outcome State Fault Refusal :=
  s.innerEvent true (fun s => { s with seconds := s.seconds + 1 })

/-- JOIN_EXPIRY (R13). -/
def execJoinExpiry (s : State) : Host.Outcome State Fault Refusal :=
  s.event (s.station.join.isSome && s.station.state == .joining)
    (fun s => State.joinDecision { s with station.join := none })

/-- SILENCE_EXPIRY (R14, R16): in SHARING the station enters ISOLATED with cause SILENT. -/
def execSilenceExpiry (s : State) : Host.Outcome State Fault Refusal :=
  s.event s.station.silence.isSome (fun s =>
    let s := { s with station.silence := none }
    if s.station.state = .sharing then s.enterIsolated .silent else s)

end Sys2Proof.Machine
end

