-- ==== Sys2Proof/Machine/LinkCommands.lean ====
section
/-! DEFINITION. The commands of the roof link (chapters 2, 3 and 5): the receiver, frames received,
own attempts and their ends, the link's timers, and the ageing of the roof table's entries. -/

namespace Sys2Proof.Machine

/-! ## The receiver -/

/-- R25, R42: the receiver is on and the own LNK_DE is released. -/
def Link.listening (l : Link) : Bool := l.rxOn && l.onWire.isNone && !l.cutOff

/-- LINK_IDLE (R25, R35): DISCARD to HUNT, and a backoff count may start. -/
def execLinkIdle (s : State) : Host.Outcome State Fault Refusal :=
  s.innerEvent s.link.listening (fun s =>
    State.serveLink
      { s with
        link.idle := true
        link.afterFrame := false
        link.rx := if s.link.rx = .discard then .hunt else s.link.rx })

/-- R25: whether an abort of this cause can come in a receiver state. -/
def abortOccurs (rx : RxState) (c : ReceiveAbort) : Bool :=
  match c with
  | .badStart ch fe => rx == .hunt && (fe || ch != 0xA7)
  | .badLength l => rx == .collect && !([6, 9, 22, 28].contains l.toNat)
  | .framingError => rx == .collect
  | .gap => rx == .collect

/-- RECEIVE_ABORT (R25): DISCARD, and one rejected frame. -/
def execReceiveAbort (cause : ReceiveAbort) (s : State) : Host.Outcome State Fault Refusal :=
  s.innerEvent (s.link.listening && abortOccurs s.link.rx cause)
    (fun s => { s with link := s.link.abort })

/-- FRAME_START_CHARACTER (R25): 0xA7 in HUNT. -/
def execFrameStartCharacter (s : State) : Host.Outcome State Fault Refusal :=
  s.innerEvent (s.link.listening && s.link.rx == .hunt)
    (fun s => { s with link := { s.link.heard with rx := .collect } })

/-- CHARACTERS_AFTER_FRAME (R25): counted once as one rejected frame. -/
def execCharactersAfterFrame (s : State) : Host.Outcome State Fault Refusal :=
  s.innerEvent (s.link.listening && s.link.rx == .discard && s.link.afterFrame)
    (fun s => { s with link := { s.link.heard.countRejected with afterFrame := false } })

/-- FRAME_REJECTED (R41): a complete frame that fails validation. -/
def execFrameRejected (frame : List Byte) (s : State) : Host.Outcome State Fault Refusal :=
  s.innerEvent (s.link.canReceive && completeFrame frame && !validFrame frame)
    (fun s => { s with link := s.link.complete.countRejected })

/-! ## Frames taken -/

/-- R57: a changed entry that carries the neighbour mark delivers a neighbour update. -/
def State.entryChanged (s : State) (marked : Bool) : State :=
  if marked then s.evaluate .neighbourUpdate else s

/-- R44, R51 to R53: a STATE from station n. -/
def State.takeState (s : State) (n : Nat) (f : StateFrame) : State :=
  let s1 := State.hearOther { s with link := s.link.complete }
  let e := s1.entry n
  let s2 := ((s1.setEntry n (e.takeState f)).recomputeCeiling).entryChanged e.mark
  if f.roll then s2.requestState else s2

/-- STATE_RECEIVED (R51): a valid STATE from another station. -/
def execStateReceived (frame : List Byte) (s : State) : Host.Outcome State Fault Refusal :=
  match parseFrame frame with
  | some ⟨n, _, .state f⟩ =>
    s.event (s.link.canReceive && n != s.number) (fun s => s.takeState n f)
  | _ => .next s

/-- R97 to R101: the Shed Responder on a call from station `caller`, in SHARING. -/
def State.respondShed (s : State) (caller : Nat) (call : ShedCall) : State :=
  let list := shedPrefix call.needed (s.candidates caller call.level)
  if list.any (fun c => c.station == s.number) then
    match s.offeredSlot with
    | some i => (s.stopSlot i).stagesMoved s
    | none => s
  else s

/-- R44, R96: a SHED from station n. The Shed Responder goes by the station state in which the frame is
taken (R96, R104): a SHED that itself brings the station back to SHARING is ignored. -/
def State.takeShed (s : State) (n : Nat) (call : ShedCall) : State :=
  let s1 := State.hearOther { s with link := s.link.complete }
  if s.station.state = .sharing then s1.respondShed n call else s1

/-- SHED_RECEIVED (R97): a valid SHED from another station. -/
def execShedReceived (frame : List Byte) (s : State) : Host.Outcome State Fault Refusal :=
  match parseFrame frame with
  | some ⟨n, _, .shed call⟩ =>
    s.event (s.link.canReceive && n != s.number) (fun s => s.takeShed n call)
  | _ => .next s

/-- R44, R56: a LEAVE from station n. -/
def State.takeLeave (s : State) (n : Nat) : State :=
  let s1 := State.hearOther { s with link := s.link.complete }
  let e := s1.entry n
  if e.state = .empty then s1
  else ((s1.setEntry n e.takeLeave).recomputeCeiling).entryChanged e.mark

/-- LEAVE_RECEIVED (R56): a valid LEAVE from another station. -/
def execLeaveReceived (frame : List Byte) (s : State) : Host.Outcome State Fault Refusal :=
  match parseFrame frame with
  | some ⟨n, _, .leave⟩ =>
    s.event (s.link.canReceive && n != s.number) (fun s => s.takeLeave n)
  | _ => .next s

/-- OWN_ECHO (R42): the own number and the own identity word; discarded without effect. -/
def execOwnEcho (frame : List Byte) (s : State) : Host.Outcome State Fault Refusal :=
  match parseFrame frame with
  | some ⟨n, identity, _⟩ =>
    s.innerEvent (s.link.canReceive && n == s.number && identity == s.identity)
      (fun s => { s with link := s.link.complete })
  | none => .next s

/-- DUPLICATE_DETECTED (R18, R43): the own number and another identity word. -/
def execDuplicateDetected (frame : List Byte) (s : State) : Host.Outcome State Fault Refusal :=
  match parseFrame frame with
  | some ⟨n, identity, _⟩ =>
    s.event (s.link.canReceive && n == s.number && identity != s.identity)
      (fun s => State.duplicateFound { s with link := s.link.complete })
  | none => .next s

/-! ## Own attempts -/

/-- BACKOFF_ABANDONED (R35): a character start heard during the count. -/
def execBackoffAbandoned (s : State) : Host.Outcome State Fault Refusal :=
  s.innerEvent s.link.backoff.isSome (fun s => { s with link := s.link.heard })

/-- R33, R36, R45: the beginning of an attempt: content taken, LNK_DE asserted. -/
def State.beginAttempt (s : State) : State :=
  let mask := if 0 < s.link.testCount then s.link.testMask else 0
  let isState := s.link.stateSlot == .current
  { s with
    link :=
      { s.link.heard with
        onWire := some ⟨s.currentFrame.encode mask, isState && s.link.roll⟩
        again := s.link.again && !isState
        rx := .discard
        afterFrame := false } }

/-- ATTEMPT_BEGIN (R36): after the backoff slots of the count in progress. -/
def execAttemptBegin (s : State) : Host.Outcome State Fault Refusal :=
  s.quietEvent s.link.backoff.isSome State.beginAttempt

/-- R37: the end of the attempt `w` that failed: the frame waits again, or is dropped after its 8th
attempt; an abandoned frame is neither. -/
def State.failAttempt (s : State) (w : WireFrame) : State :=
  let l := s.link.release
  if l.abandoned then State.serveLink { s with link := l.endCurrent w.roll }
  else if l.attempts < maxAttempts then
    State.serveLink { s with link := { l with attempts := l.attempts + 1 } }
  else
    State.serveLink (State.dropReported { s with link := (l.endCurrent w.roll).countDrop })

/-- ATTEMPT_FAILED (R36, R37), whatever the failure. -/
def execAttemptFailed (_cause : ReadBackFailure) (s : State) : Host.Outcome State Fault Refusal :=
  match s.link.onWire with
  | some w => s.event true (fun s => s.failAttempt w)
  | none => .next s

/-- R45: the link test count after a sent frame; the mask is 0 with it. -/
def Link.countTest (l : Link) : Link :=
  { l with
    testCount := l.testCount - 1
    testMask := if l.testCount ≤ 1 then 0 else l.testMask }

/-- R19, R37, R38, R45: the frame `w` sent. -/
def State.sendFrame (s : State) (w : WireFrame) : State :=
  let reload := s.link.stateSlot == .current && !s.link.abandoned
  let l := (s.link.release.endCurrent w.roll).countTest
  let s1 := State.serveLink
    { s with
      link := { l with drops := 0, report := if reload then some reportPeriod else l.report } }
  s1.returnToSharing s1.station.silence.isSome

/-- FRAME_SENT (R37): every character read back. -/
def execFrameSent (s : State) : Host.Outcome State Fault Refusal :=
  match s.link.onWire with
  | some w => s.event true (fun s => s.sendFrame w)
  | none => .next s

/-- CUT_OFF_FRAME_RELEASE (R11, R34): LNK_DE released after a restart cut a frame off. -/
def execCutOffFrameRelease (s : State) : Host.Outcome State Fault Refusal :=
  s.quietEvent s.link.cutOff (fun s => State.serveLink { s with link := s.link.release })

/-! ## Timers of the link and the table -/

/-- SPACING_EXPIRY (R34): the next attempt's backoff count may start. -/
def execSpacingExpiry (s : State) : Host.Outcome State Fault Refusal :=
  s.innerEvent s.link.spacing.isSome
    (fun s => State.serveLink { s with link.spacing := none })

/-- REPORT_TIMER_EXPIRY (R39): a STATE requested, the timer loaded again. -/
def execReportTimerExpiry (s : State) : Host.Outcome State Fault Refusal :=
  s.innerEvent s.link.report.isSome
    (fun s => State.requestState { s with link.report := some reportPeriod })

/-- FRESHNESS_EXPIRY (R54) of station n's entry. -/
def execFreshnessExpiry (n : Nat) (s : State) : Host.Outcome State Fault Refusal :=
  s.event ((s.entry n).freshness.isSome && (s.entry n).state.heard) (fun s =>
    ((s.setEntry n (s.entry n).age).recomputeCeiling).entryChanged (s.entry n).mark)

/-- CLAIM_HOLD_EXPIRY (R55) of station n's entry. -/
def execClaimHoldExpiry (n : Nat) (s : State) : Host.Outcome State Fault Refusal :=
  s.event (s.entry n).claimHold.isSome (fun s =>
    (s.setEntry n (s.entry n).dropClaim).entryChanged (s.entry n).mark)

end Sys2Proof.Machine
end

