-- ==== Sys2Proof/Machine/ModeCommands.lean ====
section
/-! DEFINITION. The commands of the Mode Logic's timers and of the damper output (chapter 6). -/

namespace Sys2Proof.Machine

/-- CHANGEOVER_EXPIRY (R123): the timer stops, which ends the block, and an evaluation follows. The
changeover side, which R123 does not name here, keeps its value (DESIGN CHOICE, log entry 26). -/
def execChangeoverExpiry (s : State) : Host.Outcome State Fault Refusal :=
  s.event s.mode.changeover.isSome (fun s =>
    State.evaluate { s with mode.changeover := none })

/-- OFF_DELAY_EXPIRY (R127): the fan goes off if the fan demand still does not hold. -/
def execOffDelayExpiry (s : State) : Host.Outcome State Fault Refusal :=
  s.event s.mode.offDelay.isSome (fun s =>
    State.evaluate { s with mode.offDelay := none } .offDelayExpiry)

/-- R2, R130: the full-open timer is running. -/
def FullOpen.isRunning : FullOpen → Bool
  | .running _ => true
  | .stopped => false
  | .expired => false

/-- FULL_OPEN_EXPIRY (R130): the expired condition, and an evaluation. -/
def execFullOpenExpiry (s : State) : Host.Outcome State Fault Refusal :=
  s.event s.mode.fullOpen.isRunning (fun s =>
    State.evaluate { s with mode.fullOpen := .expired })

/-- DAMPER_TIMER_EXPIRY (R129): an evaluation and the damper step. -/
def execDamperTimerExpiry (s : State) : Host.Outcome State Fault Refusal :=
  s.event s.mode.damperTimer.isSome (fun s =>
    State.evaluate { s with mode.damperTimer := some damperPeriod } .damperStep)

/-- PWM_PERIOD_START (R131): the DMP output takes the command as its high time. -/
def execPwmPeriodStart (s : State) : Host.Outcome State Fault Refusal :=
  s.innerEvent true (fun s => { s with pins.dmp := s.mode.damper })

end Sys2Proof.Machine
end

