-- ==== Sys2Proof/Machine/Sampling.lean ====
section
/-! DEFINITION. The Input Conditioner (chapter 9): samples, acceptance, and the delivery of
ACTIVATED, DEACTIVATED and settle notices to the Stage Controller, the Mode Logic and station
control, with the raise of SMOKE and FILTER after them (R184). -/

namespace Sys2Proof.Machine

/-- What a sample brings to the blocks: a change of accepted state, or a first acceptance (R182,
R183). -/
inductive InputEvent where
  | none
  | activated
  | deactivated
  | settled (active : Bool)
  deriving DecidableEq, Repr

/-- R181: the level of a sample by the polarity; a closed contact is a low pin. -/
def activeLevel (p : Polarity) (pinHigh : Bool) : Bool :=
  match p with
  | .activeClosed => !pinHigh
  | .activeOpen => pinHigh

/-- The accepted state of a level. -/
def acceptedOf (active : Bool) : Accepted := if active then .active else .inactive

/-- R182: a sample of a settled input. Its candidate level, of which R182 says nothing, stays the level
the input settled with (DESIGN CHOICE, log entry 27). -/
def Input.sampleSettled (i : Input) (f : Filter) (level : Bool) : Input × InputEvent :=
  if acceptedOf level = i.accepted then ({ i with streak := 0 }, .none)
  else if i.streak + 1 < samplesToAccept f then ({ i with streak := i.streak + 1 }, .none)
  else
    ({ i with streak := 0, accepted := acceptedOf level },
      if level then .activated else .deactivated)

/-- R183: a sample of an UNSETTLED input. -/
def Input.sampleUnsettled (i : Input) (f : Filter) (level : Bool) : Input × InputEvent :=
  let streak := if i.candidate = some level then i.streak + 1 else 1
  if streak < samplesToAccept f then
    ({ i with candidate := some level, streak := streak }, .none)
  else
    ({ i with candidate := some level, streak := 0, accepted := acceptedOf level },
      .settled level)

/-- R181 to R183: one sample of one fitted input, its timer loaded again. -/
def Input.sample (i : Input) (c : InputConfig) (level : Bool) : Input × InputEvent :=
  let i := { i with timer := some (sampleInterval c.filter) }
  match i.accepted with
  | .unfitted => (i, .none)
  | .unsettled => i.sampleUnsettled c.filter level
  | .inactive => i.sampleSettled c.filter level
  | .active => i.sampleSettled c.filter level

/-! ## The Stage Controller's handling -/

/-- R153: HPn ACTIVATED. -/
def State.highPressure (s : State) (n : Circuit) (cause : Category) : State :=
  if s.isRunning (slotOfCircuit n) then s.trip (slotOfCircuit n) cause else s.raise cause

/-- R154: LPn ACTIVATED. -/
def State.lowPressure (s : State) (n : Circuit) (cause : Category) : State :=
  match s.stageState (slotOfCircuit n) with
  | .runLock => s.trip (slotOfCircuit n) cause
  | .runFree => s.trip (slotOfCircuit n) cause
  | _ => s

/-- R145: HEAT_PROVE ACTIVATED moves a heat stage in PROVING to RUN_LOCK. -/
def State.proveHeat (s : State) (i : Slot) : State :=
  if s.stageState i = .proving then
    s.setSlot i { s.slot i with state := .runLock, prove := none }
  else s

/-- R155: HEAT_PROVE DEACTIVATED trips a heat stage that has seen it active. -/
def State.losesHeatProve (s : State) (i : Slot) : State :=
  match s.stageState i with
  | .runLock => s.trip i .heatProve
  | .runFree => s.trip i .heatProve
  | _ => s

/-- R138, R145, R153 to R155: the Stage Controller at ACTIVATED. -/
def State.stageActivated (s : State) (r : InputRole) : State :=
  match r with
  | .fanProve => s.fanProveOn
  | .hp1 => (s.highPressure .one .hp1).stagesMoved s
  | .hp2 => (s.highPressure .two .hp2).stagesMoved s
  | .lp1 => (s.lowPressure .one .lp1).stagesMoved s
  | .lp2 => (s.lowPressure .two .lp2).stagesMoved s
  | .heatProve => s.moveAll State.proveHeat [.h1, .h2]
  | .occ => s
  | .smoke => s
  | .filter => s

/-- R138, R155: the Stage Controller at DEACTIVATED; H1 trips before H2 (log entry 7). -/
def State.stageDeactivated (s : State) (r : InputRole) : State :=
  match r with
  | .fanProve => s.fanProveOff
  | .heatProve => s.moveAll State.losesHeatProve [.h1, .h2]
  | .occ => s
  | .smoke => s
  | .filter => s
  | .hp1 => s
  | .hp2 => s
  | .lp1 => s
  | .lp2 => s

/-! ## Delivery -/

/-- R184, R185: the category an input stands for itself. -/
def inputCategory : InputRole → Option Category
  | .smoke => some .smoke
  | .filter => some .filter
  | .occ => none
  | .fanProve => none
  | .hp1 => none
  | .lp1 => none
  | .hp2 => none
  | .lp2 => none
  | .heatProve => none

/-- R185: an ACTIVATED and a first acceptance as ACTIVE raise the category their input stands for. -/
def InputEvent.raises : InputEvent → Bool
  | .activated => true
  | .settled active => active
  | .deactivated => false
  | .none => false

/-- R184, R185: the raise of SMOKE or FILTER, after the handling of the blocks. -/
def State.raiseInput (s : State) (r : InputRole) (e : InputEvent) : State :=
  match inputCategory r with
  | some c => if e.raises then s.raise c else s
  | none => s

/-- R108, R184: the Mode Logic's handling: OCC brings an evaluation. -/
def State.modeHears (s : State) (r : InputRole) : State := if r = .occ then s.evaluate else s

/-- R21: station control at SMOKE DEACTIVATED. -/
def State.smokeCleared (s : State) : State :=
  if s.station.state = .shutdown then s.leaveShutdown else s

/-- R183 to R185: an input event delivered to the Stage Controller, the Mode Logic and station control.
The Stage Controller's own answer to a settle notice is the selection that ends every event. -/
def State.deliverInput (s : State) (r : InputRole) (e : InputEvent) : State :=
  match e with
  | .none => s
  | .activated =>
    let s1 := (s.stageActivated r).modeHears r
    if r = .smoke then s1.smokeActive else s1
  | .deactivated =>
    let s1 := (s.stageDeactivated r).modeHears r
    if r = .smoke then s1.smokeCleared else s1
  | .settled active => if active && r == .smoke then s.smokeActive else s

/-- R181 to R183: what one sample of an input's pin makes of the input, and what it brings. -/
def State.sampled (s : State) (r : InputRole) (pinHigh : Bool) : Input × InputEvent :=
  let c := s.cfg.inputs.get r
  (s.input r).sample c (activeLevel c.polarity pinHigh)

/-- R181, R182: one sample of a fitted input's pin. -/
def State.sampleInput (s : State) (r : InputRole) (pinHigh : Bool) : State :=
  (s.setInput r (s.sampled r pinHigh).1).deliverInput r (s.sampled r pinHigh).2

end Sys2Proof.Machine
end

