-- ==== Sys2Proof/Machine/Sensing.lean ====
section
/-! DEFINITION. The Sensor Scanner (chapter 8): scans, the reference check, the curve, the filter, the
channel states, and the deliveries to the Mode Logic and the Stage Controller. -/

namespace Sys2Proof.Machine

/-! ## From code to temperature -/

/-- R170: the curve's 17 points, at codes 256 × i. -/
def curve : List Int :=
  [1500, 1016, 763, 621, 520, 439, 370, 308, 250, 194, 139, 83, 22, -47, -132, -256, -600]

/-- R170: the linearised temperature of a code. -/
def linearise (code : Nat) : Int :=
  let lo := curve.getD (code / 256) 0
  let hi := curve.getD (code / 256 + 1) 0
  lo + ((hi - lo) * (code % 256 : Nat) + 128) / 256

/-- R171: the clamp to -400 to +1000. -/
def clampTemp (t : Int) : Int := max (-400) (min 1000 t)

/-- R169: a good sample is a code from 41 to 4054. -/
def goodCode (code : Nat) : Bool := 41 ≤ code && code ≤ 4054

/-- R172: the reported value of an accumulator. -/
def filtered (acc : Int) : Int := (acc + 4) / 8

/-- R172: a channel seeded by a linearised temperature, its clamped flag set by R171. -/
def Sensor.seed (c : Sensor) (t : Int) : Sensor :=
  let v := clampTemp t
  { c with acc := 8 * v, value := some (filtered (8 * v)), clamped := v != t }

/-- R172: a linearised temperature filtered into a channel. -/
def Sensor.filterIn (c : Sensor) (t : Int) : Sensor :=
  let v := clampTemp t
  let acc := c.acc + v - filtered c.acc
  { c with acc := acc, value := some (filtered acc), clamped := v != t }

/-! ## Channel states -/

/-- R173, R175: the transition of a good sample. -/
def Sensor.good (c : Sensor) (t : Int) : Sensor :=
  match c.state with
  | .unseen => { c.seed t with badStreak := 0, state := .valid }
  | .valid => { c.filterIn t with badStreak := 0 }
  | .holding => { c.filterIn t with badStreak := 0, state := .valid }
  | .invalid =>
    if c.goodStreak + 1 < 4 then { c with goodStreak := c.goodStreak + 1 }
    else { c.seed t with goodStreak := 0, badStreak := 0, cause := .none, state := .valid }
  | .unfitted => c

/-- R174: entry to INVALID by samples. -/
def Sensor.giveUp (c : Sensor) : Sensor :=
  { c with state := .invalid, cause := .samples, value := none, goodStreak := 0, badStreak := 4 }

/-- R173: the transition of a bad sample. -/
def Sensor.bad (c : Sensor) : Sensor :=
  match c.state with
  | .unseen => if c.badStreak + 1 < 4 then { c with badStreak := c.badStreak + 1 } else c.giveUp
  | .valid => { c with badStreak := 1, state := .holding }
  | .holding => if c.badStreak + 1 < 4 then { c with badStreak := c.badStreak + 1 } else c.giveUp
  | .invalid => { c with goodStreak := 0 }
  | .unfitted => c

/-- R169, R173: one result applied to a fitted channel. -/
def Sensor.apply (c : Sensor) (code : Nat) : Sensor :=
  if goodCode code then c.good (linearise code) else c.bad

/-! ## Deliveries -/

/-- The circuit whose coil a channel is (R162). -/
def circuitOf : Channel → Option Circuit
  | .coil1 => some .one
  | .coil2 => some .two
  | .zone => none
  | .ret => none
  | .supply => none
  | .outdoor => none

/-- R155: the heat limit test of an applied SUPPLY result, which trips every running heat stage, H1
before H2 (log entry 7). -/
def State.heatLimit (s : State) : State :=
  match s.reading .supply with
  | some v => if 600 < v then s.moveAll (fun s i => s.trip i .heatLimit) [.h1, .h2] else s
  | none => s

/-- R176: an applied result delivered to the channel's readers. Of a SUPPLY result, whose order R176
leaves open, the evaluation with its normal stops comes first and the heat limit test second (DESIGN
CHOICE, log entry 8). -/
def State.deliverResult (s : State) (ch : Channel) : State :=
  match circuitOf ch with
  | some n => s.coilDelivered n
  | none =>
    let s := s.evaluate
    if ch = .supply then s.heatLimit else s

/-- R176, R108: a change of one channel's state by the reference check delivered: a coil's to the freeze
timer of its circuit alone, every other channel's to the Mode Logic, which evaluates. -/
def State.deliverChange (s : State) (ch : Channel) : State :=
  match circuitOf ch with
  | some n => s.coilDelivered n
  | none => s.evaluate

/-- R167, R168, R176: each channel whose state the reference check changed since `before` delivered, in
channel number order (log entry 8). -/
def State.deliverChanges (s before : State) : State :=
  allChannels.foldl
    (fun s ch =>
      if (s.sensor ch).state = (before.sensor ch).state then s else s.deliverChange ch) s

/-! ## The reference check -/

/-- R166: a reference code within 12 of its nominal. -/
def near (code nominal : Nat) : Bool := nominal ≤ code + 12 && code ≤ nominal + 12

/-- R167: a fitted channel not already INVALID at entry to SUSPECT. -/
def Sensor.suspect (c : Sensor) : Sensor :=
  match c.state with
  | .unfitted => c
  | .invalid => c
  | _ =>
    { c with state := .invalid, cause := .reference, value := none, badStreak := 0,
             goodStreak := 0 }

/-- R168: a fitted channel at the return to NORMAL. -/
def Sensor.renew (c : Sensor) : Sensor :=
  match c.state with
  | .unfitted => c
  | _ =>
    { c with state := .unseen, cause := .none, value := none, badStreak := 0, goodStreak := 0,
             clamped := false }

/-- A function of every external channel. -/
def State.mapSensors (s : State) (f : Sensor → Sensor) : State :=
  { s with scan.sensors := PerChannel.of (fun c => f (s.sensor c)) }

/-- R167: entry to SUSPECT. -/
def State.enterSuspect (s : State) : State :=
  let s1 := ({ s with scan.state := .suspect } : State).mapSensors Sensor.suspect
  (s1.raise .refCheck).deliverChanges s

/-- R168: entry to NORMAL. -/
def State.enterNormal (s : State) : State :=
  (({ s with scan.state := .normal } : State).mapSensors Sensor.renew).deliverChanges s

/-- R166: the streaks after a check. -/
def Scanner.streaks (n : Scanner) (pass : Bool) : Scanner :=
  if pass then { n with failStreak := 0, passStreak := min 2 (n.passStreak + 1) }
  else { n with passStreak := 0, failStreak := min 2 (n.failStreak + 1) }

/-- R166: the reference check at a REF_LOW completion. -/
def State.referenceCheck (s : State) : State :=
  let pass := near s.scan.refHigh.toNat 3891 && near s.scan.refLow.toNat 205
  let s := { s with scan := s.scan.streaks pass }
  match s.scan.state with
  | .normal => if s.scan.failStreak = 2 then s.enterSuspect else s
  | .suspect => if s.scan.passStreak = 2 then s.enterNormal else s

/-! ## Conversions -/

/-- R164: the list of a scan's conversions. -/
def State.scanList (s : State) : List Conversion :=
  [.refHigh, .refLow] ++
    (allChannels.filter (fun c => (s.sensor c).state != .unfitted)).map Conversion.external

/-- R165, R174, R176: a completion of a fitted external channel. -/
def State.externalComplete (s : State) (ch : Channel) (code : BitVec 12) : State :=
  let before := s.sensor ch
  if before.state = .unfitted then s
  else
    let s := s.setSensor ch { before with raw := code }
    match s.scan.state with
    | .suspect => s
    | .normal =>
      let after := Sensor.apply { before with raw := code } code.toNat
      let s := s.setSensor ch after
      let s :=
        if after.state = .invalid ∧ before.state ≠ .invalid then s.raise ch.category else s
      s.deliverResult ch

/-- R165: one conversion completion. -/
def State.complete (s : State) (c : Conversion) (code : BitVec 12) : State :=
  match c with
  | .refHigh => { s with scan.refHigh := code }
  | .refLow => State.referenceCheck { s with scan.refLow := code }
  | .external ch => s.externalComplete ch code

/-! ## A record taken -/

/-- R177: an external channel set afresh from a record. -/
def Sensor.afresh (raw : BitVec 12) (fitted : Bool) (n : ScannerState) : Sensor :=
  if fitted then
    match n with
    | .normal => { Sensor.start with raw := raw, state := .unseen }
    | .suspect => { Sensor.start with raw := raw, state := .invalid, cause := .reference }
  else { Sensor.start with raw := raw }

/-- R177: every external channel set afresh from a record. -/
def State.sensorsAfresh (s : State) (cfg : ConfigRecord) : State :=
  { s with
    scan.sensors := PerChannel.of (fun c =>
      Sensor.afresh (s.sensor c).raw (cfg.channels.get c) s.scan.state) }

end Sys2Proof.Machine
end

