-- ==== Sys2Proof/Machine/PlantCommands.lean ====
section
/-! DEFINITION. The commands of the plant's inputs (chapters 8 and 9): scans, conversions and input
samples. -/

namespace Sys2Proof.Machine

/-- SCAN_TIMER_EXPIRY (R164): a scan starts, its list formed. -/
def execScanTimerExpiry (s : State) : Host.Outcome State Fault Refusal :=
  s.innerEvent s.scan.timer.isSome (fun s =>
    { s with scan.timer := some scanPeriod, scan.scan := s.scanList })

/-- CONVERSION_COMPLETE (R165): the next conversion of the scan in progress. -/
def execConversionComplete (code : BitVec 12) (s : State) : Host.Outcome State Fault Refusal :=
  match s.scan.scan with
  | c :: rest => s.event true (fun s => State.complete { s with scan.scan := rest } c code)
  | [] => .next s

/-- INPUT_SAMPLE (R181, R182): a sample of a fitted input's pin; SMOKE and FILTER are raised last (R184). -/
def execInputSample (r : InputRole) (pinHigh : Bool) (s : State) :
    Host.Outcome State Fault Refusal :=
  s.eventThen ((s.input r).timer.isSome && s.accepted r != .unfitted)
    (fun s => s.sampleInput r pinHigh) (fun t => t.raiseInput r (s.sampled r pinHigh).2)

end Sys2Proof.Machine
end

