-- ==== Sys2Proof/Machine/ServiceCommands.lean ====
section
/-! DEFINITION. The commands of the service line (chapter 11): its receiver, the eleven requests, the
answers a request can fail with, and the end of a response. -/

namespace Sys2Proof.Machine

/-- R200: the response held while it is sent. -/
def State.answer (s : State) (code : Nat) (result : ServiceResult) (payload : List Byte := []) :
    State :=
  { s with svc.buffer := .held (responseFrame code result payload) false }

/-- R198, R200: a completed request. With the buffer HELD it is discarded without answer. -/
def State.request (s : State) (handle : State → State) : Host.Outcome State Fault Refusal :=
  .next
    (if s.powered then
      match s.svc.buffer with
      | .held _ _ => { s with svc.rx := .hunt }
      | .empty => handle { s with svc.rx := .hunt }
    else s)

/-- R202: a valid record taken. -/
def State.takeRecord (s : State) (cfg : ConfigRecord) : State :=
  let s := ({ s with config := some cfg, table.ceiling := cfg.ceiling } : State).sensorsAfresh cfg
  { s with inputs := inputsAfresh cfg }

/-- CONFIGURE (R10, R201, R202, R205). -/
def execConfigure (record : List Byte) (s : State) : Host.Outcome State Fault Refusal :=
  s.request (fun s =>
    if record.length ≠ 70 then s.answer 0x01 .badArgument
    else if s.station.state ≠ .config then s.answer 0x01 .refused
    else
      match firstFailing record with
      | some n => s.answer 0x01 .badRecord (be8 n)
      | none => (s.takeRecord (readRecord record)).drivePins.answer 0x01 .ok)

/-- START (R10, R203). -/
def execStart (s : State) : Host.Outcome State Fault Refusal :=
  s.request (fun s =>
    match s.station.state, s.config with
    | .config, some cfg => ((s.enterJoining cfg).settleInto s).answer 0x02 .ok
    | _, _ => s.answer 0x02 .refused)

/-- READ_STATUS (R206). -/
def execReadStatus (s : State) : Host.Outcome State Fault Refusal :=
  s.request (fun s => s.answer 0x10 .ok s.statusRecord)

/-- READ_ENTRY (R206, R207). -/
def execReadEntry (n : Byte) (s : State) : Host.Outcome State Fault Refusal :=
  s.request (fun s =>
    if 1 ≤ n.toNat ∧ n.toNat ≤ 48 then s.answer 0x11 .ok (s.entryRecord n.toNat)
    else s.answer 0x11 .badArgument)

/-- READ_FAULTS (R206, R208). -/
def execReadFaults (s : State) : Host.Outcome State Fault Refusal :=
  s.request (fun s => s.answer 0x12 .ok s.fault.bytes)

/-- CLEAR (R195, R204): bit 23 of the category set must be clear. -/
def execClear (set : BitVec 24) (s : State) : Host.Outcome State Fault Refusal :=
  s.request (fun s =>
    if set.getLsbD 23 then s.answer 0x20 .badArgument
    else (s.clearFaults set).drivePins.answer 0x20 .ok)

/-- R158: a LOCKED slot released. -/
def State.unlockSlot (s : State) (i : Slot) : State :=
  let s1 := s.setSlot i
    { s.slot i with
      state := .offLock, timer := some (ofSeconds (s.slotConfig i).minOff), history := [] }
  (s1.stagesMoved s).settleInto s

/-- UNLOCK (R158, R204). -/
def execUnlock (code : Byte) (s : State) : Host.Outcome State Fault Refusal :=
  s.request (fun s =>
    if s.station.state = .config then s.answer 0x21 .refused
    else
      match slotOfCode code.toNat with
      | some i =>
        if s.stageState i = .locked then (s.unlockSlot i).answer 0x21 .ok
        else s.answer 0x21 .badArgument
      | none => s.answer 0x21 .badArgument)

/-- SERVICE_RESTART (R203): answered OK; the restart follows at the end of the response. -/
def execServiceRestart (s : State) : Host.Outcome State Fault Refusal :=
  s.request (fun s => { s with svc.buffer := .held (responseFrame 0x30 .ok []) true })

/-- LEAVE (R22, R203). -/
def execLeave (s : State) : Host.Outcome State Fault Refusal :=
  s.request (fun s =>
    match s.station.state with
    | .sharing => (s.enterLeft.settleInto s).answer 0x31 .ok
    | .isolated => (s.enterLeft.settleInto s).answer 0x31 .ok
    | .solo => (s.enterLeft.settleInto s).answer 0x31 .ok
    | .shutdown => (s.enterLeft.settleInto s).answer 0x31 .ok
    | .config => s.answer 0x31 .refused
    | .joining => s.answer 0x31 .refused
    | .left => s.answer 0x31 .refused)

/-- ROLLCALL (R203): in SHARING a STATE with ROLL is requested. -/
def execRollcall (s : State) : Host.Outcome State Fault Refusal :=
  s.request (fun s =>
    if s.station.state = .sharing then (s.requestState true).answer 0x32 .ok
    else s.answer 0x32 .refused)

/-- LINK_TEST (R45, R203). -/
def execLinkTest (mask : BitVec 16) (count : Byte) (s : State) :
    Host.Outcome State Fault Refusal :=
  s.request (fun s =>
    if s.station.state = .config ∨ s.station.state = .left then s.answer 0x33 .refused
    else if mask = 0 ∨ count.toNat < 1 ∨ 16 < count.toNat then s.answer 0x33 .badArgument
    else
      State.answer { s with link.testMask := mask, link.testCount := count.toNat } 0x33 .ok)

/-- UNKNOWN_REQUEST (R201): an unknown code or a wrong length; the code is echoed as received. A request
of a known code and its length is not this event. -/
def execUnknownRequest (code : Byte) (payload : List Byte) (s : State) :
    Host.Outcome State Fault Refusal :=
  if requestLength code.toNat = some (1 + payload.length) then .next s
  else s.request (fun s => s.answer code.toNat .badArgument)

/-- REQUEST_DISCARDED_BUSY (R200): a request completed while the buffer is HELD. -/
def execRequestDiscardedBusy (s : State) : Host.Outcome State Fault Refusal :=
  s.innerEvent (s.svc.buffer != .empty) (fun s => { s with svc.rx := .hunt })

/-- SERVICE_FRAME_BAD_CRC (R198): a complete frame that fails its CRC is discarded. -/
def execServiceFrameBadCrc (frame : List Byte) (s : State) : Host.Outcome State Fault Refusal :=
  s.innerEvent (completeServiceFrame frame && !crcGood frame) (fun s => { s with svc.rx := .hunt })

/-- SERVICE_FRAME_ABORT (R198): in COLLECT, the frame is discarded whatever the cause. -/
def execServiceFrameAbort (_cause : ServiceAbort) (s : State) :
    Host.Outcome State Fault Refusal :=
  s.innerEvent (s.svc.rx == .collect) (fun s => { s with svc.rx := .hunt })

/-- SERVICE_RESPONSE_END (R200, R11): the buffer EMPTY again, and the restart a SERVICE_RESTART asked
for. -/
def execServiceResponseEnd (s : State) : Host.Outcome State Fault Refusal :=
  match s.svc.buffer with
  | .empty => .next s
  | .held _ restartAtEnd =>
    if restartAtEnd then
      s.event true (fun s => State.doRestart { s with svc.buffer := .empty })
    else s.innerEvent true (fun s => { s with svc.buffer := .empty })

/-- SERVICE_START_CHARACTER (R198): 0x5A in HUNT. -/
def execServiceStartCharacter (s : State) : Host.Outcome State Fault Refusal :=
  s.innerEvent (s.svc.rx == .hunt) (fun s => { s with svc.rx := .collect })

/-- SERVICE_LENGTH_ZERO (R198): a length of 0 in COLLECT. -/
def execServiceLengthZero (s : State) : Host.Outcome State Fault Refusal :=
  s.innerEvent (s.svc.rx == .collect) (fun s => { s with svc.rx := .hunt })

end Sys2Proof.Machine
end

