-- ==== Sys2Proof/Machine/StageCommands.lean ====
section
/-! DEFINITION. The commands of the Stage Controller's timers (chapter 7). -/

namespace Sys2Proof.Machine

/-- R139: entry of the fan proof into FAILED: every running stage stopped, and FAN_PROVE raised with the
station as that leaves it (log entry 9). -/
def State.failFanProof (s : State) : State :=
  let s1 : State := { s with stage.fanProof := .failed, stage.fanProofTimer := none }
  (s1.moveAll State.stopSlot allSlots).raise .fanProve

/-- FAN_PROOF_EXPIRY (R138). -/
def execFanProofExpiry (s : State) : Host.Outcome State Fault Refusal :=
  s.event s.stage.fanProofTimer.isSome (fun s =>
    match s.stage.fanProof with
    | .waiting =>
      if s.active .fanProve then
        { s with stage.fanProof := .proven, stage.fanProofTimer := none }
      else s.failFanProof
    | .recovering => s.failFanProof
    | .idle => s
    | .proven => s
    | .failed => s)

/-- A slot moved on to RUN_LOCK, its prove timer stopped (R144, R145). -/
def State.lockRun (s : State) (i : Slot) : State :=
  s.setSlot i { s.slot i with state := .runLock, prove := none }

/-- R144, R145: the cause a slot fails its prove with, if it does. -/
def State.proveFailure (s : State) (i : Slot) : Option Category :=
  match i with
  | .c1 => if s.active .lp1 then some .lp1 else none
  | .c2 => if s.active .lp2 then some .lp2 else none
  | .h1 => if s.active .heatProve then none else some .heatProve
  | .h2 => if s.active .heatProve then none else some .heatProve

/-- PROVE_EXPIRY (R144, R145). -/
def execProveExpiry (i : Slot) (s : State) : Host.Outcome State Fault Refusal :=
  s.event ((s.slot i).prove.isSome && s.stageState i == .proving) (fun s =>
    match s.proveFailure i with
    | some cause => (s.trip i cause).stagesMoved s
    | none => (s.lockRun i).stagesMoved s)

/-- R146, R147: a slot freed, and the stops of its side's normal stop test, made in the same event on the
counts the event found; each transition is reported as it completes (R137, log entry 8). -/
def State.freeSlot (s : State) (i : Slot) : State :=
  let s1 := s.setSlot i { s.slot i with state := .runFree, timer := none }
  State.serveWanted 4 s.mode ((s1.reportMove s).moveEach State.stopSlot (s1.stopsDue (sideOf i)))

/-- MIN_RUN_EXPIRY (R146): RUN_FREE, and the side's normal stop test. -/
def execMinRunExpiry (i : Slot) (s : State) : Host.Outcome State Fault Refusal :=
  s.event ((s.slot i).timer.isSome && s.stageState i == .runLock) (fun s => s.freeSlot i)

/-- MIN_OFF_EXPIRY (R148): READY, and a selection. -/
def execMinOffExpiry (i : Slot) (s : State) : Host.Outcome State Fault Refusal :=
  s.event ((s.slot i).timer.isSome && s.stageState i == .offLock) (fun s =>
    (s.setSlot i { s.slot i with state := .ready, timer := none }).stagesMoved s)

/-- TRIP_DELAY_EXPIRY (R152): OFF_LOCK with the min-off loaded. -/
def execTripDelayExpiry (i : Slot) (s : State) : Host.Outcome State Fault Refusal :=
  s.event ((s.slot i).timer.isSome && s.stageState i == .tripped) (fun s =>
    let off := some (ofSeconds (s.slotConfig i).minOff)
    (s.setSlot i { s.slot i with state := .offLock, timer := off }).stagesMoved s)

/-- INTER_STAGE_EXPIRY (R142): a selection. -/
def execInterStageExpiry (s : State) : Host.Outcome State Fault Refusal :=
  s.event s.stage.interStage.isSome (fun s => { s with stage.interStage := none })

/-- FREEZE_EXPIRY (R154) of a compressor circuit. -/
def execFreezeExpiry (n : Circuit) (s : State) : Host.Outcome State Fault Refusal :=
  s.event (s.stage.freeze n).isSome (fun s =>
    let s1 := { s with stage := s.stage.setFreeze n none }
    (s1.trip (slotOfCircuit n) (freezeCategory n)).stagesMoved s)

end Sys2Proof.Machine
end

