-- ==== Sys2Proof/Machine/Dispatch.lean ====
section
/-! DEFINITION. The dispatch: one arm for each command of spec/opcode_table.json, in the table's order,
each one call of the command's meaning. -/

namespace Sys2Proof.Machine

/-- One command's effect on everything but the queue. -/
def exec (i : Instr) (s : State) : Host.Outcome State Fault Refusal :=
  match i with
  | .powerUp => Sys2Proof.Machine.execPowerUp s
  | .supplyOutOfRange => Sys2Proof.Machine.execSupplyOutOfRange s
  | .restart => Sys2Proof.Machine.execRestart s
  | .secondsTick => Sys2Proof.Machine.execSecondsTick s
  | .configure record => Sys2Proof.Machine.execConfigure record s
  | .start => Sys2Proof.Machine.execStart s
  | .readStatus => Sys2Proof.Machine.execReadStatus s
  | .readEntry n => Sys2Proof.Machine.execReadEntry n s
  | .readFaults => Sys2Proof.Machine.execReadFaults s
  | .clear set => Sys2Proof.Machine.execClear set s
  | .unlock code => Sys2Proof.Machine.execUnlock code s
  | .serviceRestart => Sys2Proof.Machine.execServiceRestart s
  | .leave => Sys2Proof.Machine.execLeave s
  | .rollcall => Sys2Proof.Machine.execRollcall s
  | .linkTest mask count => Sys2Proof.Machine.execLinkTest mask count s
  | .unknownRequest code payload => Sys2Proof.Machine.execUnknownRequest code payload s
  | .requestDiscardedBusy => Sys2Proof.Machine.execRequestDiscardedBusy s
  | .serviceFrameBadCrc frame => Sys2Proof.Machine.execServiceFrameBadCrc frame s
  | .serviceFrameAbort cause => Sys2Proof.Machine.execServiceFrameAbort cause s
  | .serviceResponseEnd => Sys2Proof.Machine.execServiceResponseEnd s
  | .linkIdle => Sys2Proof.Machine.execLinkIdle s
  | .receiveAbort cause => Sys2Proof.Machine.execReceiveAbort cause s
  | .frameRejected frame => Sys2Proof.Machine.execFrameRejected frame s
  | .stateReceived frame => Sys2Proof.Machine.execStateReceived frame s
  | .shedReceived frame => Sys2Proof.Machine.execShedReceived frame s
  | .leaveReceived frame => Sys2Proof.Machine.execLeaveReceived frame s
  | .ownEcho frame => Sys2Proof.Machine.execOwnEcho frame s
  | .duplicateDetected frame => Sys2Proof.Machine.execDuplicateDetected frame s
  | .backoffAbandoned => Sys2Proof.Machine.execBackoffAbandoned s
  | .attemptBegin => Sys2Proof.Machine.execAttemptBegin s
  | .attemptFailed cause => Sys2Proof.Machine.execAttemptFailed cause s
  | .frameSent => Sys2Proof.Machine.execFrameSent s
  | .spacingExpiry => Sys2Proof.Machine.execSpacingExpiry s
  | .reportTimerExpiry => Sys2Proof.Machine.execReportTimerExpiry s
  | .joinExpiry => Sys2Proof.Machine.execJoinExpiry s
  | .silenceExpiry => Sys2Proof.Machine.execSilenceExpiry s
  | .freshnessExpiry station => Sys2Proof.Machine.execFreshnessExpiry station s
  | .claimHoldExpiry station => Sys2Proof.Machine.execClaimHoldExpiry station s
  | .settleExpiry => Sys2Proof.Machine.execSettleExpiry s
  | .holdoffExpiry => Sys2Proof.Machine.execHoldoffExpiry s
  | .shedWaitExpiry => Sys2Proof.Machine.execShedWaitExpiry s
  | .shedSpacingExpiry => Sys2Proof.Machine.execShedSpacingExpiry s
  | .changeoverExpiry => Sys2Proof.Machine.execChangeoverExpiry s
  | .offDelayExpiry => Sys2Proof.Machine.execOffDelayExpiry s
  | .fullOpenExpiry => Sys2Proof.Machine.execFullOpenExpiry s
  | .damperTimerExpiry => Sys2Proof.Machine.execDamperTimerExpiry s
  | .pwmPeriodStart => Sys2Proof.Machine.execPwmPeriodStart s
  | .fanProofExpiry => Sys2Proof.Machine.execFanProofExpiry s
  | .proveExpiry slot => Sys2Proof.Machine.execProveExpiry slot s
  | .minRunExpiry slot => Sys2Proof.Machine.execMinRunExpiry slot s
  | .minOffExpiry slot => Sys2Proof.Machine.execMinOffExpiry slot s
  | .tripDelayExpiry slot => Sys2Proof.Machine.execTripDelayExpiry slot s
  | .interStageExpiry => Sys2Proof.Machine.execInterStageExpiry s
  | .freezeExpiry circuit => Sys2Proof.Machine.execFreezeExpiry circuit s
  | .scanTimerExpiry => Sys2Proof.Machine.execScanTimerExpiry s
  | .conversionComplete code => Sys2Proof.Machine.execConversionComplete code s
  | .inputSample role pinHigh => Sys2Proof.Machine.execInputSample role pinHigh s
  | .frameStartCharacter => Sys2Proof.Machine.execFrameStartCharacter s
  | .charactersAfterFrame => Sys2Proof.Machine.execCharactersAfterFrame s
  | .serviceStartCharacter => Sys2Proof.Machine.execServiceStartCharacter s
  | .serviceLengthZero => Sys2Proof.Machine.execServiceLengthZero s
  | .cutOffFrameRelease => Sys2Proof.Machine.execCutOffFrameRelease s

end Sys2Proof.Machine
end

