-- ==== Sys2Proof/Safety.lean ====
section
/-! DEFINITION. What a safe run of the part is, as laws over one state that the manual states of every
state a run can reach, and the frames claims are stated with: which parts of State a kind of command
leaves alone. -/

namespace Sys2Proof.Machine

/-! ## Laws of a state -/

/-- R135, R126, R36, R196, R9: the pins show what the state drives while the part is powered, and
are all low while it is not. -/
def State.pinsFollow (s : State) : Bool :=
  if s.powered then s.pins == s.drivenPins else s.pins == Pins.low

/-- R4: the isolation cause is NONE exactly outside ISOLATED. -/
def StationCtl.causeLaw (c : StationCtl) : Bool := (c.cause == .none) == (c.state != .isolated)

/-- R194: a non-empty later-fault set goes with an occupied record or with UNCAPTURED. -/
def FaultCapture.uncapturedLaw (f : FaultCapture) : Bool :=
  f.later == 0 || f.record.isSome || f.uncaptured

/-- R191: the category held in the record is not also in the later-fault set. -/
def FaultCapture.recordApart (f : FaultCapture) : Bool :=
  f.record.all (fun r => !r.category.within f.later)

/-- R68, R69: an open claim and a running settle timer exactly in SETTLING, a running holdoff timer
exactly in HOLDOFF and SHED_WAIT. -/
def Admission.law (a : Admission) : Bool :=
  a.claim.isSome == (a.state == .settling) && a.settle.isSome == (a.state == .settling) &&
    a.holdoff.isSome == (a.state == .holdoff || a.state == .shedWait)

/-- R30: how many of the three transmit slots are CURRENT. -/
def Link.currentCount (l : Link) : Nat :=
  (l.leaveSlot == .current).toNat + (l.shedSlot == .current).toNat + (l.stateSlot == .current).toNat

/-- R30, R35, R36: at most one slot is CURRENT; with one the attempt count is 1 to 8, and with none it
is 0, nothing is on the wire and no backoff is counted. -/
def Link.queueLaw (l : Link) : Bool :=
  l.currentCount ≤ 1 &&
    if l.currentCount = 1 then 1 ≤ l.attempts && l.attempts ≤ maxAttempts
    else l.attempts == 0 && l.backoff.isNone && l.onWire.isNone

/-- R54: only FRESH and STALE entries hold a claim part. -/
def RoofTable.claimLaw (r : RoofTable) : Bool :=
  r.entries.toList.all (fun e => e.claim.isNone || e.state.heard)

/-- R61: the effective ceiling never exceeds the own configured ceiling. -/
def State.ceilingLaw (s : State) : Bool := s.table.ceiling ≤ s.cfg.ceiling

/-- R151: a compressor and a heat stage are never both in a running state. -/
def State.oneSide (s : State) : Bool := s.runningCount .cooling == 0 || s.runningCount .heating == 0

/-- R136: the running order list holds the running stages, each once. -/
def State.orderLaw (s : State) : Bool :=
  decide s.stage.order.Nodup && allSlots.all (fun i => s.stage.order.contains i == s.isRunning i)

/-- R69, R88, R143: a claim is open in SHARING alone, and for a slot in CLAIMED. -/
def State.claimLaw (s : State) : Bool :=
  match s.adm.claim with
  | none => true
  | some c => s.station.state == .sharing && s.stageState c.slot == .claimed

/-- R6: the staged load is 0 outside the working states and within the fallback cap in ISOLATED. -/
def State.loadLaw (s : State) : Bool :=
  match s.station.state with
  | .sharing => true
  | .solo => true
  | .isolated => s.stagedLoad ≤ s.cfg.cap
  | .config => allSlots.all (fun i => !s.isRunning i)
  | .joining => allSlots.all (fun i => !s.isRunning i)
  | .shutdown => allSlots.all (fun i => !s.isRunning i)
  | .left => allSlots.all (fun i => !s.isRunning i)

/-- R126, R129: the fan is commanded in the working states alone, and the damper command is 0 whenever
the fan command is off. -/
def State.airLaw (s : State) : Bool :=
  if s.mode.fan then s.station.state.working else s.mode.damper == 0

/-- R202, R205: the held configuration record is one that passed validation. -/
def State.recordLaw (s : State) : Prop :=
  ∀ r, s.config = some r → ∃ b : List Byte, b.length = 70 ∧ firstFailing b = none ∧ r = readRecord b

/-! ## What holds a start back -/

/-- R70: no start request can be taken: the admission is busy, or the station state takes none. -/
def State.startsHeld (s : State) : Bool := s.adm.state != .idle || !s.station.state.working

/-! ## Frames -/

/-- What no command but CONFIGURE, SECONDS_TICK, the supply and the restarts can write. -/
def State.sameHolding (s t : State) : Prop :=
  t.powered = s.powered ∧ t.serial = s.serial ∧ t.config = s.config ∧ t.seconds = s.seconds ∧
    t.pending = s.pending

/-- Of the Link Controller, at most the transmit queue and the backoff count differ (R30 to R32,
R35): what requests can move. -/
def Link.sameButQueue (l k : Link) : Prop :=
  k = { l with
    leaveSlot := k.leaveSlot, shedSlot := k.shedSlot, shedCall := k.shedCall,
    heldShed := k.heldShed, stateSlot := k.stateSlot, again := k.again, roll := k.roll,
    attempts := k.attempts, backoff := k.backoff }

/-- What an event at the plant's inputs or timers leaves alone beside what it may raise: everything but
the transmit queue, admission, mode, stages, Fault Capture and pins. -/
def State.stageFrame (s t : State) : Prop :=
  t = { s with
    link := t.link, adm := t.adm, mode := t.mode, stage := t.stage, fault := t.fault,
    pins := t.pins } ∧ s.link.sameButQueue t.link

/-- R152, R157: stage `i` tripped with a cause: TRIPPED with 600 s, or LOCKED by its history; off the
running order list; its pin low; the cause and, if it locked, LOCKOUT held. -/
def State.tripTaken (s t : State) (i : Slot) (cause : Category) : Prop :=
  let h := pushTrip (s.slot i).history s.seconds
  t.slot i =
      { state := if locksOut h then .locked else .tripped
        timer := if locksOut h then none else some 600000
        prove := none, history := h } ∧
    i ∉ t.stage.order ∧ t.pins.stages.get i = false ∧ cause.within t.fault.heldSet = true ∧
    (locksOut h = true → Category.lockout.within t.fault.heldSet = true)

/-- R149: stage `i` stopped: OFF_LOCK with its min-off, off the running order list, its pin low. -/
def State.stopTaken (s t : State) (i : Slot) : Prop :=
  t.stageState i = .offLock ∧ (t.slot i).timer = some ((s.slotConfig i).minOff * 1000) ∧
    (t.slot i).prove = none ∧ (t.slot i).history = (s.slot i).history ∧ i ∉ t.stage.order ∧
    t.pins.stages.get i = false

/-- R143, R145: stage `i` started: PROVING, or RUN_LOCK for a heat stage that finds HEAT_PROVE active
or unfitted; min-run and inter-stage loaded; newest of the running order list; its pin high. -/
def State.startTaken (s t : State) (i : Slot) : Prop :=
  (t.slot i).timer = some ((s.slotConfig i).minRun * 1000) ∧
    (t.slot i).history = (s.slot i).history ∧ t.stage.interStage = some 60000 ∧
    t.stage.order.getLast? = some i ∧ t.pins.stages.get i = true ∧
    if sideOf i = .heating ∧
        (s.accepted .heatProve = .active ∨ s.accepted .heatProve = .unfitted) then
      t.stageState i = .runLock ∧ (t.slot i).prove = none
    else t.stageState i = .proving ∧ (t.slot i).prove = some 30000

/-- R30, R35: what a request leaves in a queue: the slot QUEUED or CURRENT. -/
def SlotState.waiting : SlotState → Bool
  | .queued => true
  | .current => true
  | .empty => false

/-- R30 to R32, R37: how the transmit slots of `l` are left in `k` when the frame of the CURRENT one is
sent or given up (`rolled`: it carried ROLL) and nothing else asks for a frame: LEAVE and SHED EMPTY,
or the held values of a further SHED waiting; STATE EMPTY with both marks clear, or waiting by its
again mark; the other slots as they were, but that the first waiting one is CURRENT with attempt
count 1. -/
def Link.slotsEnded (l k : Link) (rolled : Bool) : Prop :=
  (l.leaveSlot = .current → k.leaveSlot = .empty) ∧
    (l.leaveSlot ≠ .current → k.leaveSlot.waiting = l.leaveSlot.waiting) ∧
    (l.shedSlot = .current → l.heldShed = none → k.shedSlot = .empty ∧ k.heldShed = none) ∧
    (∀ call ∈ l.heldShed, l.shedSlot = .current →
      k.shedSlot.waiting = true ∧ k.shedCall = call ∧ k.heldShed = none) ∧
    (l.shedSlot ≠ .current →
      k.shedSlot.waiting = l.shedSlot.waiting ∧ k.shedCall = l.shedCall ∧
        k.heldShed = l.heldShed) ∧
    (l.stateSlot = .current → l.again = true →
      k.stateSlot.waiting = true ∧ k.again = false ∧ k.roll = (l.roll && !rolled)) ∧
    (l.stateSlot = .current → l.again = false →
      k.stateSlot = .empty ∧ k.again = false ∧ k.roll = false) ∧
    (l.stateSlot ≠ .current →
      k.stateSlot.waiting = l.stateSlot.waiting ∧ k.again = l.again ∧ k.roll = l.roll) ∧
    k.attempts =
      if k.leaveSlot.waiting || k.shedSlot.waiting || k.stateSlot.waiting then 1 else 0

/-- R141: a presented request meets the conditions of a selection, and with none presented no slot
does. -/
def State.selectionLaw (s : State) : Prop :=
  (∀ i : Slot, s.stage.presented = some i →
    s.runningCount (sideOf i) < s.wanted (sideOf i) ∧ s.stageState i = .ready ∧
      s.stage.interStage = none ∧ s.interlocks i = true ∧
      ∀ j : Slot, s.stageState j ≠ .claimed) ∧
    (s.stage.presented = none → ∀ i : Slot, s.selectable i = false)

/-- R182: on a powered part, a sample of this pin level is the one that changes the settled input to
the level `active`. -/
def State.accepts (s : State) (r : InputRole) (pinHigh active : Bool) : Bool :=
  s.powered && (s.input r).timer.isSome && s.accepted r == acceptedOf (!active) &&
    activeLevel (s.cfg.inputs.get r).polarity pinHigh == active &&
    ((s.cfg.inputs.get r).filter == .none || 2 ≤ (s.input r).streak)

/-- R183: on a powered part, a sample of this pin level is the one that settles the UNSETTLED input at
the level `active`. -/
def State.settles (s : State) (r : InputRole) (pinHigh active : Bool) : Bool :=
  s.powered && (s.input r).timer.isSome && s.accepted r == .unsettled &&
    activeLevel (s.cfg.inputs.get r).polarity pinHigh == active &&
    ((s.cfg.inputs.get r).filter == .none ||
      ((s.input r).candidate == some active && 2 ≤ (s.input r).streak))

/-- R198, R200: the commands that are completed requests of the service line. -/
def isRequest : Instr → Bool
  | .configure _ | .start | .readStatus | .readEntry _ | .readFaults | .clear _ | .unlock _
  | .serviceRestart | .leave | .rollcall | .linkTest _ _ => true
  | .unknownRequest code payload => requestLength code.toNat != some (1 + payload.length)
  | _ => false

/-- R129: the damper command moved toward its target by at most 20. -/
def damperToward (command target : Nat) : Nat :=
  if command ≤ target then min target (command + 20) else max target (command - 20)

end Sys2Proof.Machine
end

