-- ==== Sys2Proof/Certificates/Slice0/Obligations.lean ====
section
/-! DEFINITION. The statements for the provers, in the order of the manual's chapters. Each formalises
what a rule says a command does, or a law the manual gives of every state. `exec` never stops, so the
statements of a command's effect conclude that it answers a next state and say what that state holds. -/

section
open Sys2Proof Sys2Proof.Machine

/-! ## The queue and the part as a whole -/

/-- A step runs the command at the front of the queue, with the rest of the queue, and idles on an
empty queue. The queue is the model's own (log entry 3). -/
def Obligations.StepRunsFrontCommand : Prop :=
  (∀ (c : Instr) (rest : List Instr) (s : State),
    step { s with pending := c :: rest } = exec c { s with pending := rest })
  ∧
  (∀ (s : State), s.pending = [] → step s = .next s)

/-- No command faults or is refused, and none writes the queue or the factory serial (R28: fixed at
manufacture). That every command completes in every state is the model's reading (log entry 4). -/
def Obligations.EveryCommandCompletes : Prop :=
  ∀ (c : Instr) (s : State),
    ∃ t, exec c s = .next t ∧ t.pending = s.pending ∧ t.serial = s.serial

/-! ## Station life -/

/-- R8, R46, R64, R92, R133, R138, R160, R178, R187, R191, R198, R200: the values of power-up. That the
serial and the queue stay (log entries 1 and 3) and that POWER_UP acts from every state (log entry 10)
is the model's choice. -/
def Obligations.PowerUpValues : Prop :=
  ∀ (s : State),
    ∃ t, exec .powerUp s = .next t ∧
      t.powered = true ∧ t.station.state = .config ∧ t.config = none ∧ t.station.cause = .none ∧
      t.station.duplicate = false ∧ t.station.join = none ∧ t.station.silence = none ∧
      t.seconds = 0 ∧ t.link.rxOn = false ∧ t.link.txOn = false ∧
      t.pins.stages = ⟨false, false, false, false⟩ ∧ t.pins.fan = false ∧ t.mode.damper = 0 ∧
      t.fault.record = none ∧ t.fault.later = 0 ∧ t.fault.uncaptured = false ∧
      t.pins.alert = true ∧ (t.slot .c1).history = [] ∧ (t.slot .c2).history = [] ∧
      (t.slot .h1).history = [] ∧ (t.slot .h2).history = [] ∧ t.svc = ⟨.hunt, .empty⟩ ∧
      t.link.rx = .discard ∧ t.link.leaveSlot = .empty ∧ t.link.shedSlot = .empty ∧
      t.link.stateSlot = .empty ∧ t.link.again = false ∧ t.link.roll = false ∧
      t.link.heldShed = none ∧ t.link.attempts = 0 ∧ t.link.drops = 0 ∧ t.link.spacing = none ∧
      t.link.report = none ∧ t.link.rejected = 0 ∧ t.link.testCount = 0 ∧ t.link.testMask = 0 ∧
      (∀ n : Nat, t.entry n =
        { state := .empty, report := none, claim := none, mark := false, freshness := none
          claimHold := none }) ∧ t.table.ceiling = 0 ∧
      t.adm =
        { state := .idle, claim := none, lastSerial := 0, denials := 0, lastLevel := 0
          headroom := 0, settle := none, holdoff := none, shedSpacing := none } ∧
      t.mode =
        { zoneTemp := none, zoneSource := .none, side := .none, level := 0, cool1 := false
          cool2 := false, heat1 := false, heat2 := false, wantedCool := 0, wantedHeat := 0
          mode := .off, econAvailable := false, changeover := none
          changeoverSide := t.mode.changeoverSide, yieldHold := none, fan := false
          offDelay := none, damperTarget := 0, damper := 0, fullOpen := .stopped
          damperTimer := none } ∧
      (∀ i : Slot, t.slot i = { state := .unfitted, timer := none, prove := none, history := [] }) ∧
      t.stage.order = [] ∧ t.stagedLoad = 0 ∧ t.stage.interStage = none ∧
      t.stage.freeze1 = none ∧ t.stage.freeze2 = none ∧ t.stage.fanProof = .idle ∧
      t.stage.fanProofTimer = none ∧
      t.scan.state = .normal ∧ t.scan.passStreak = 0 ∧ t.scan.failStreak = 0 ∧
      t.scan.refHigh = 0 ∧ t.scan.refLow = 0 ∧ t.scan.timer = some 250 ∧ t.scan.scan = [] ∧
      (∀ ch : Channel, t.sensor ch =
        { state := .unfitted, raw := 0, acc := 0, value := none, clamped := false, badStreak := 0
          goodStreak := 0, cause := .none }) ∧
      (∀ r : InputRole, t.input r =
        { accepted := .unfitted, candidate := none, streak := 0, timer := none }) ∧
      t.serial = s.serial ∧ t.pending = s.pending

/-- R9: with the supply out of range the part does not run, its outputs are low and neither serial line
carries a frame. That the rest of State stands until the next power-up, and that no other command
acts, is log entry 10. -/
def Obligations.SupplyOutOfRangeStopsThePart : Prop :=
  (∀ (s : State),
    exec .supplyOutOfRange s =
      .next { s with
        powered := false
        link.onWire := none
        link.cutOff := false
        svc.buffer := .empty
        pins := { stages := ⟨false, false, false, false⟩, fan := false, lnkDe := false,
                  alert := false, lnkTx := .low, svcTx := .low, dmp := 0 } })
  ∧
  (∀ (c : Instr) (s : State), s.powered = false → c ≠ .powerUp → c ≠ .supplyOutOfRange →
    exec c s = .next s)

/-- R11, R64, R65, R132, R133, R138, R161, R178, R188: what a restart keeps, and where it leaves the
station and its blocks. That raw codes are kept is the model's choice (log entry 22). -/
def Obligations.RestartKeepsAndResets : Prop :=
  ∀ (s : State), s.powered = true →
    ∃ t, exec .restart s = .next t ∧
      s.sameHolding t ∧ t.fault = s.fault ∧
      t.station =
        { state := if s.config.isSome then .joining else .config, cause := .none,
          duplicate := false, join := if s.config.isSome then some 4000 else none,
          silence := none } ∧
      (∀ i : Slot, (t.slot i).history = (s.slot i).history) ∧
      (∀ i : Slot, s.config.isSome = true → (s.slotConfig i).fitted = true →
        t.stageState i = if s.stageState i = .locked then .locked else .offLock) ∧
      (∀ i : Slot, s.config.isSome = true → (s.slotConfig i).fitted = true →
        s.stageState i ≠ .locked →
          (t.slot i).timer = some ((20 + (s.number - 1) * 3) * 1000)) ∧
      (∀ i : Slot, t.isRunning i = false ∧ (t.slot i).prove = none) ∧ t.stage.order = [] ∧
      t.stage.interStage = none ∧ t.adm = Admission.start ∧ t.mode.fan = false ∧
      t.mode.damper = 0 ∧ t.mode.mode = .off ∧ t.mode.wantedCool = 0 ∧ t.mode.wantedHeat = 0 ∧
      t.mode.changeover = none ∧ t.mode.yieldHold = none ∧ t.mode.offDelay = none ∧
      t.mode.fullOpen = .stopped ∧
      t.mode.damperTimer = (if s.config.isSome then some 1000 else none) ∧
      (s.config.isSome = true → ∀ n : Nat, 1 ≤ n → n ≤ 48 → t.entry n =
        { Entry.blank with
          state := if n = s.number then .self else .empty
          mark := n != s.number && s.cfg.neighbours.contains n }) ∧
      (s.config = none → ∀ n : Nat, t.entry n = Entry.blank) ∧
      t.table.ceiling = (if s.config.isSome then s.cfg.ceiling else 0) ∧
      t.svc = ⟨.hunt, .empty⟩ ∧ t.link.drops = 0 ∧
      t.link.rejected = 0 ∧ t.link.testCount = 0 ∧ t.link.spacing = none ∧
      t.link.leaveSlot = .empty ∧ t.link.shedSlot = .empty ∧
      t.link.stateSlot = (if s.config.isSome then .current else .empty) ∧
      t.link.roll = s.config.isSome ∧ t.link.rxOn = s.config.isSome ∧
      (∀ ch : Channel, (t.sensor ch).raw = (s.sensor ch).raw ∧
        (t.sensor ch).state =
          if (s.sensor ch).state = .unfitted then .unfitted else .unseen) ∧
      (∀ ch : Channel, (t.sensor ch).acc = 0 ∧ (t.sensor ch).value = none ∧
        (t.sensor ch).clamped = false ∧ (t.sensor ch).badStreak = 0 ∧
        (t.sensor ch).goodStreak = 0 ∧ (t.sensor ch).cause = .none) ∧
      t.scan.state = .normal ∧ t.scan.passStreak = 0 ∧ t.scan.failStreak = 0 ∧
      t.scan.timer = some 250 ∧ t.scan.scan = [] ∧ t.stage.fanProof = .idle ∧
      t.stage.fanProofTimer = none ∧
      (∀ r : InputRole, t.accepted r =
        if (s.cfg.inputs.get r).fitted then .unsettled else .unfitted)

/-- R200, R11: a response ends and the buffer is EMPTY; after the response of a SERVICE_RESTART the
restart follows, with the same effect as an edge on RESTART. -/
def Obligations.ResponseEndEmptiesTheBuffer : Prop :=
  (∀ (s : State) (r : List Byte), s.powered = true → s.svc.buffer = .held r false →
    exec .serviceResponseEnd s = .next { s with svc.buffer := .empty })
  ∧
  (∀ (s : State) (r : List Byte), s.powered = true → s.svc.buffer = .held r true →
    exec .serviceResponseEnd s = exec .restart s)

/-- R23, R87, R131, R164: four ticks that write one block's own state and nothing else. -/
def Obligations.TicksWriteTheirOwnState : Prop :=
  (∀ (s : State), s.powered = true →
    exec .secondsTick s = .next { s with seconds := BitVec.ofNat 32 (s.seconds.toNat + 1) })
  ∧
  (∀ (s : State), s.powered = true → s.adm.shedSpacing.isSome = true →
    exec .shedSpacingExpiry s = .next { s with adm.shedSpacing := none })
  ∧
  (∀ (s : State), s.powered = true →
    exec .pwmPeriodStart s = .next { s with pins.dmp := s.mode.damper })
  ∧
  (∀ (s : State), s.powered = true → s.scan.timer.isSome = true →
    exec .scanTimerExpiry s =
      .next { s with
        scan.timer := some 250
        scan.scan :=
          Conversion.refHigh :: Conversion.refLow ::
            ([Channel.zone, .ret, .supply, .outdoor, .coil1, .coil2].filter
              (fun ch => (s.sensor ch).state != .unfitted)).map Conversion.external })

/-- R13, R15, R21: the first state of the join decision whose condition holds, and the first state whose
condition holds when SMOKE clears in SHUTDOWN. -/
def Obligations.JoinDecision : Prop :=
  (∀ (s : State), s.powered = true → s.station.state = .joining → s.station.join.isSome = true →
    s.accepted .smoke = .active →
    ∃ t, exec .joinExpiry s = .next t ∧
      t.station = { s.station with state := .shutdown, cause := .none, join := none } ∧
      s.stageFrame { t with station := s.station })
  ∧
  (∀ (s : State), s.powered = true → s.station.state = .joining → s.station.join.isSome = true →
    s.accepted .smoke ≠ .active → s.cfg.roofSize = 1 →
    ∃ t, exec .joinExpiry s = .next t ∧
      t.station = { s.station with state := .solo, cause := .none, join := none } ∧
      s.stageFrame { t with station := s.station })
  ∧
  (∀ (s : State), s.powered = true → s.station.state = .joining → s.station.join.isSome = true →
    s.accepted .smoke ≠ .active → s.cfg.roofSize ≠ 1 → 3 ≤ s.link.drops →
    ∃ t, exec .joinExpiry s = .next t ∧
      t.station = { s.station with state := .isolated, cause := .transmit, join := none } ∧
      s.stageFrame { t with station := s.station })
  ∧
  (∀ (s : State) (n : Nat), s.powered = true → s.station.state = .joining →
    s.station.join.isSome = true → s.accepted .smoke ≠ .active → s.cfg.roofSize ≠ 1 →
    s.link.drops < 3 → (s.entry n).state = .fresh →
    ∃ t, exec .joinExpiry s = .next t ∧
      t.station = { s.station with state := .sharing, cause := .none, join := none } ∧
      s.stageFrame { t with station := s.station })
  ∧
  (∀ (s : State), s.powered = true → s.station.state = .joining → s.station.join.isSome = true →
    s.accepted .smoke ≠ .active → s.cfg.roofSize ≠ 1 → s.link.drops < 3 →
    (∀ n : Nat, (s.entry n).state ≠ .fresh) →
    ∃ t, exec .joinExpiry s = .next t ∧
      t.station = { s.station with state := .isolated, cause := .silent, join := none } ∧
      Category.linkSilent.within t.fault.heldSet = true ∧
      s.stageFrame { t with station := s.station })
  ∧
  (∀ (s : State) (pinHigh : Bool), s.accepts .smoke pinHigh false = true →
    s.station.state = .shutdown →
    ∃ t, exec (.inputSample .smoke pinHigh) s = .next t ∧
      t.station = { s.station with
        state :=
          if s.station.duplicate = true then .isolated
          else if s.cfg.roofSize = 1 then .solo
          else if 3 ≤ s.link.drops then .isolated
          else if s.station.silence = none then .isolated else .sharing
        cause :=
          if s.station.duplicate = true then .duplicate
          else if s.cfg.roofSize = 1 then .none
          else if 3 ≤ s.link.drops then .transmit
          else if s.station.silence = none then .silent else .none } ∧
      (t.station.state = .isolated → t.station.cause = .silent →
        Category.linkSilent.within t.fault.heldSet = true) ∧
      (t.station.cause ≠ .silent → t.fault = s.fault) ∧
      t.link.stateSlot.waiting = true ∧
      s.stageFrame { t with station := s.station, inputs := s.inputs })

/-- R14, R15, R16: silence isolates a sharing station, withdraws its claim, raises LINK_SILENT and
stops stages down to the fallback cap; in any other state it only stops the timer, and beside it
nothing moves but what the selection of every event finds. -/
def Obligations.SilenceIsolates : Prop :=
  (∀ (s : State), s.powered = true → s.station.silence.isSome = true →
    s.station.state = .sharing →
    ∃ t, exec .silenceExpiry s = .next t ∧
      t.station = { s.station with state := .isolated, cause := .silent, silence := none } ∧
      t.adm.claim = none ∧ t.adm.settle = none ∧ t.link.stateSlot.waiting = true ∧
      t.link.heldShed = none ∧
      Category.linkSilent.within t.fault.heldSet = true ∧
      (s.orderLaw = true → t.stagedLoad ≤ s.cfg.cap) ∧
      ({ s.link with abandoned := t.link.abandoned } : Link).sameButQueue t.link ∧
      t = { s with
        station := t.station, link := t.link, adm := t.adm, mode := t.mode, stage := t.stage,
        fault := t.fault, pins := t.pins })
  ∧
  (∀ (s : State), s.powered = true → s.station.silence.isSome = true →
    s.station.state ≠ .sharing →
    ∃ t, exec .silenceExpiry s = .next t ∧ t.station = { s.station with silence := none } ∧
      t.fault = s.fault ∧
      (s.startsHeld = true →
        t.adm = s.adm ∧ t.mode = s.mode ∧ t.link = s.link ∧
          t.stage = { s.stage with presented := t.stage.presented }) ∧
      s.stageFrame { t with station := s.station })

/-! ## The service line -/

/-- R10, R201, R202, R177, R187, R64: a record that passes validation is held and sets the channels, the
inputs and the effective ceiling; one that fails is answered with its first failing field; outside
CONFIG the request is refused. That raw codes are kept and that an input set afresh has no candidate is
the model's choice (log entry 22), and a record of another length is the wrong length of R201 (log
entry 19). -/
def Obligations.ConfigureTakesAValidRecord : Prop :=
  (∀ (s : State) (b : List Byte), s.powered = true → s.svc.buffer = .empty →
    s.station.state = .config → b.length = 70 → firstFailing b = none →
    ∃ t, exec (.configure b) s = .next t ∧
      t.config = some (readRecord b) ∧ t.table = { s.table with ceiling := wordAt b 2 } ∧
      t.svc = ⟨.hunt, .held (responseFrame 0x01 .ok []) false⟩ ∧
      (∀ ch : Channel, (t.sensor ch).state =
        if (byteAt b 57).testBit ch.number then
          (if s.scan.state = .normal then .unseen else .invalid)
        else .unfitted) ∧
      (∀ ch : Channel, (t.sensor ch).value = none ∧ (t.sensor ch).acc = 0 ∧
        (t.sensor ch).clamped = false ∧ (t.sensor ch).raw = (s.sensor ch).raw) ∧
      (∀ ch : Channel, (t.sensor ch).badStreak = 0 ∧ (t.sensor ch).goodStreak = 0 ∧
        (t.sensor ch).cause =
          if (byteAt b 57).testBit ch.number ∧ s.scan.state = .suspect then .reference
          else .none) ∧
      (∀ r : InputRole, t.accepted r =
        if (byteAt b (58 + inputPin r)).testBit 0 then .unsettled else .unfitted) ∧
      (∀ r : InputRole, (t.input r).streak = 0 ∧ (t.input r).candidate = none ∧
        (t.input r).timer =
          if (byteAt b (58 + inputPin r)).testBit 0 then
            some (match byteAt b (58 + inputPin r) / 4 % 4 with
              | 0 => 1
              | 1 => 2
              | 2 => 20
              | _ => 200)
          else none) ∧
      t.pins = t.drivenPins ∧
      t = { s with
        config := t.config, table := t.table, scan.sensors := t.scan.sensors,
        inputs := t.inputs, svc := t.svc, pins := t.pins })
  ∧
  (∀ (s : State) (b : List Byte) (n : Nat), s.powered = true → s.svc.buffer = .empty →
    s.station.state = .config → b.length = 70 → firstFailing b = some n →
    exec (.configure b) s =
      .next { s with
        svc := ⟨.hunt, .held (responseFrame 0x01 .badRecord [BitVec.ofNat 8 n]) false⟩ })
  ∧
  (∀ (s : State) (b : List Byte), s.powered = true → s.svc.buffer = .empty →
    s.station.state ≠ .config → b.length = 70 →
    exec (.configure b) s =
      .next { s with svc := ⟨.hunt, .held (responseFrame 0x01 .refused []) false⟩ })
  ∧
  (∀ (s : State) (b : List Byte), s.powered = true → s.svc.buffer = .empty → b.length ≠ 70 →
    exec (.configure b) s =
      .next { s with svc := ⟨.hunt, .held (responseFrame 0x01 .badArgument []) false⟩ })

/-- R10, R12, R65, R132, R161, R203: START in CONFIG with a record held enters JOINING. That the link
counts as not idle from then on (log entry 15) and that no characters after a frame are to be counted
(log entry 22) is the model's choice. -/
def Obligations.StartEntersJoining : Prop :=
  (∀ (s : State) (cfg : ConfigRecord), s.powered = true → s.svc.buffer = .empty →
    s.station.state = .config → s.config = some cfg → s.link.onWire = none →
    ∃ t, exec .start s = .next t ∧
      t.station = { s.station with
        state := .joining, cause := .none, join := some 4000, silence := none } ∧
      t.link.rxOn = true ∧ t.link.txOn = true ∧ t.link.rx = .discard ∧
      t.link.report = some 2000 ∧ t.link.roll = true ∧ t.link.stateSlot.waiting = true ∧
      (∀ n : Nat, 1 ≤ n → n ≤ 48 → t.entry n =
        { Entry.blank with
          state := if n = cfg.station then .self else .empty
          mark := n != cfg.station && cfg.neighbours.contains n }) ∧
      ({ s.link with
          rxOn := true, txOn := true, rx := .discard, afterFrame := false, idle := false
          report := some 2000 } : Link).sameButQueue t.link ∧
      t.table.ceiling = cfg.ceiling ∧
      t.adm = { s.adm with denials := t.adm.denials } ∧
      (∀ i : Slot, (cfg.slots.get i).fitted = true → s.stageState i ≠ .locked →
        t.stageState i = .offLock ∧
          (t.slot i).timer = some ((20 + (cfg.station - 1) * 3) * 1000)) ∧
      (∀ i : Slot, (cfg.slots.get i).fitted = false → t.stageState i = .unfitted) ∧
      t.stage.order = [] ∧ t.stage.interStage = none ∧ t.stage.fanProof = .idle ∧
      t.mode.mode = .off ∧ t.mode.fan = false ∧ t.mode.damper = 0 ∧ t.mode.wantedCool = 0 ∧
      t.mode.wantedHeat = 0 ∧ t.mode.changeover = none ∧ t.mode.yieldHold = none ∧
      t.mode.damperTimer = some 1000 ∧
      t.svc = ⟨.hunt, .held (responseFrame 0x02 .ok []) false⟩ ∧
      s.sameHolding t ∧ t.scan = s.scan ∧ t.inputs = s.inputs ∧ t.fault = s.fault)
  ∧
  (∀ (s : State), s.powered = true → s.svc.buffer = .empty →
    ¬(s.station.state = .config ∧ s.config.isSome = true) →
    exec .start s =
      .next { s with svc := ⟨.hunt, .held (responseFrame 0x02 .refused []) false⟩ })

/-- R206, R207, R208, R199: the three reads answer with the record as it stands, of the length the
table gives, and change nothing but the request buffer. -/
def Obligations.ReadsAnswerTheRecords : Prop :=
  (∀ (s : State), s.powered = true → s.svc.buffer = .empty →
    exec .readStatus s =
        .next { s with svc := ⟨.hunt, .held (responseFrame 0x10 .ok s.statusRecord) false⟩ } ∧
      s.statusRecord.length = 67 ∧ byteAt s.statusRecord 0 = s.station.state.code ∧
      byteAt s.statusRecord 1 = s.station.cause.code ∧
      longAt s.statusRecord 8 = BitVec.ofInt 32 s.adm.headroom ∧
      wordAt s.statusRecord 16 = s.stagedLoad % 65536 ∧
      byteAt s.statusRecord 27 = (s.sensor .zone).state.code ∧
      byteAt s.statusRecord 49 = s.scan.state.code ∧
      byteAt s.statusRecord 50 = (s.accepted .occ).code ∧
      longAt s.statusRecord 63 = s.seconds)
  ∧
  (∀ (s : State) (n : Byte), s.powered = true → s.svc.buffer = .empty →
    1 ≤ n.toNat → n.toNat ≤ 48 →
    exec (.readEntry n) s =
        .next { s with
          svc := ⟨.hunt, .held (responseFrame 0x11 .ok (s.entryRecord n.toNat)) false⟩ } ∧
      (s.entryRecord n.toNat).length = 28 ∧ byteAt (s.entryRecord n.toNat) 0 = n.toNat ∧
      byteAt (s.entryRecord n.toNat) 1 = (s.entry n.toNat).state.code)
  ∧
  (∀ (s : State) (n : Byte), s.powered = true → s.svc.buffer = .empty →
    ¬(1 ≤ n.toNat ∧ n.toNat ≤ 48) →
    exec (.readEntry n) s =
      .next { s with svc := ⟨.hunt, .held (responseFrame 0x11 .badArgument []) false⟩ })
  ∧
  (∀ (s : State), s.powered = true → s.svc.buffer = .empty →
    exec .readFaults s =
        .next { s with svc := ⟨.hunt, .held (responseFrame 0x12 .ok s.fault.bytes) false⟩ } ∧
      s.fault.bytes.length = 22 ∧
      byteAt s.fault.bytes 1 = (s.fault.record.map (fun r => r.category.number)).getD 0)

/-- R192, R193: a raise into an EMPTY record captures the category with the live fields, a category the
record holds changes nothing, and any other joins the later-fault set. That a captured category leaves
the set is log entry 11. -/
def Obligations.RaiseTakesACategory : Prop :=
  (∀ (s : State) (c : Category), s.fault.record = none →
    (s.raise c).fault.record = some
      { category := c, seconds := s.seconds, station := s.station.state, mode := s.mode.mode
        stages := ⟨s.stageState .c1, s.stageState .c2, s.stageState .h1, s.stageState .h2⟩
        zoneTemp := s.mode.zoneTemp
        supplyTemp :=
          if (s.sensor .supply).state = .valid ∨ (s.sensor .supply).state = .holding then
            (s.sensor .supply).value
          else none
        staged := s.stagedLoad, level := s.mode.level } ∧
      (∀ d : Category, d.within (s.raise c).fault.later = (d.within s.fault.later && d != c)) ∧
      (s.raise c).fault.uncaptured = s.fault.uncaptured ∧
      s.raise c = { s with fault := (s.raise c).fault })
  ∧
  (∀ (s : State) (c : Category) (r : FaultRecord), s.fault.record = some r → r.category = c →
    s.raise c = s)
  ∧
  (∀ (s : State) (c : Category) (r : FaultRecord), s.fault.record = some r → r.category ≠ c →
    (∀ d : Category, d.within (s.raise c).fault.later = (d.within s.fault.later || d == c)) ∧
      s.raise c = { s with fault.later := (s.raise c).fault.later })

/-- R195, R204: after a CLEAR a named category is held exactly if its condition holds, every other
category stays as it was, and UNCAPTURED follows stage 3; a CLEAR that names no category changes
nothing. -/
def Obligations.ClearRemovesWhatHasEnded : Prop :=
  (∀ (s : State) (set : BitVec 24), s.powered = true → s.svc.buffer = .empty →
    set.getLsbD 23 = false →
    ∃ t, exec (.clear set) s = .next t ∧
      (∀ c : Category, c.within t.fault.heldSet =
        if c.within set then s.condition c else c.within s.fault.heldSet) ∧
      (set = 0 → t.fault = s.fault) ∧
      t.fault.uncaptured =
        (if set = 0 then s.fault.uncaptured
         else if s.fault.later &&& ~~~set = 0 then false
         else if ∀ r ∈ s.fault.record, r.category.within set = true then true
         else s.fault.uncaptured) ∧
      t.svc = ⟨.hunt, .held (responseFrame 0x20 .ok []) false⟩ ∧ t.pins = t.drivenPins ∧
      t = { s with fault := t.fault, svc := t.svc, pins := t.pins })
  ∧
  (∀ (s : State) (set : BitVec 24), s.powered = true → s.svc.buffer = .empty →
    set.getLsbD 23 = true →
    exec (.clear set) s =
      .next { s with svc := ⟨.hunt, .held (responseFrame 0x20 .badArgument []) false⟩ })

/-- R158, R204: UNLOCK of a LOCKED slot empties its history and puts it in OFF_LOCK; of any other slot
it is answered BAD_ARGUMENT; in CONFIG it is refused. -/
def Obligations.UnlockReleasesALockedSlot : Prop :=
  (∀ (s : State) (code : Byte) (i : Slot), s.powered = true → s.svc.buffer = .empty →
    s.station.state ≠ .config → code.toNat = slotCode i → s.stageState i = .locked →
    ∃ t, exec (.unlock code) s = .next t ∧
      t.slot i = { s.slot i with
        state := .offLock, timer := some ((s.slotConfig i).minOff * 1000), history := [] } ∧
      t.svc = ⟨.hunt, .held (responseFrame 0x21 .ok []) false⟩ ∧ t.fault = s.fault ∧
      s.stageFrame { t with svc := s.svc })
  ∧
  (∀ (s : State) (code : Byte), s.powered = true → s.svc.buffer = .empty →
    s.station.state ≠ .config → (∀ i : Slot, code.toNat = slotCode i → s.stageState i ≠ .locked) →
    exec (.unlock code) s =
      .next { s with svc := ⟨.hunt, .held (responseFrame 0x21 .badArgument []) false⟩ })
  ∧
  (∀ (s : State) (code : Byte), s.powered = true → s.svc.buffer = .empty →
    s.station.state = .config →
    exec (.unlock code) s =
      .next { s with svc := ⟨.hunt, .held (responseFrame 0x21 .refused []) false⟩ })

/-- R22, R7, R149, R203: LEAVE enters LEFT, stops every stage, withdraws a claim, turns the fan off and
queues one LEAVE frame; in CONFIG, JOINING and LEFT it is refused. -/
def Obligations.LeaveTakesTheStationOff : Prop :=
  (∀ (s : State), s.powered = true → s.svc.buffer = .empty →
    s.station.state = .sharing ∨ s.station.state = .isolated ∨ s.station.state = .solo ∨
      s.station.state = .shutdown →
    ∃ t, exec .leave s = .next t ∧
      t.station = { s.station with state := .left, cause := .none } ∧
      (∀ i : Slot, s.isRunning i = true → s.stopTaken t i) ∧
      (∀ i : Slot, t.isRunning i = false ∧ t.stageState i ≠ .claimed) ∧
      t.adm = { s.adm with
        state := .idle, claim := none, settle := none, holdoff := none,
        denials := t.adm.denials } ∧
      (t.adm.denials = s.adm.denials ∨ t.adm.denials = 0) ∧
      t.mode.fan = false ∧ t.mode.damper = 0 ∧ t.mode.mode = .off ∧ t.link.report = none ∧
      t.link.leaveSlot.waiting = true ∧ t.link.heldShed = none ∧
      (s.link.onWire = none → t.link.leaveSlot = .current ∧ t.link.stateSlot = .empty ∧
        t.link.shedSlot = .empty) ∧
      ({ s.link with report := none, abandoned := t.link.abandoned } : Link).sameButQueue
        t.link ∧ t.fault = s.fault ∧
      t.svc = ⟨.hunt, .held (responseFrame 0x31 .ok []) false⟩ ∧
      t = { s with
        station := t.station, link := t.link, adm := t.adm, mode := t.mode, stage := t.stage,
        svc := t.svc, pins := t.pins })
  ∧
  (∀ (s : State), s.powered = true → s.svc.buffer = .empty →
    s.station.state = .config ∨ s.station.state = .joining ∨ s.station.state = .left →
    exec .leave s =
      .next { s with svc := ⟨.hunt, .held (responseFrame 0x31 .refused []) false⟩ })

/-- R31, R203: ROLLCALL in SHARING requests a STATE with ROLL, by the state of the STATE slot; in every
other state it is refused. -/
def Obligations.RollcallRequestsRoll : Prop :=
  (∀ (s : State), s.powered = true → s.svc.buffer = .empty → s.station.state = .sharing →
    ∃ t, exec .rollcall s = .next t ∧ t.link.stateSlot.waiting = true ∧
      (s.link.stateSlot ≠ .current ∨ s.link.onWire = none →
        t.link.roll = true ∧ t.link.again = s.link.again) ∧
      (∀ w ∈ s.link.onWire, s.link.stateSlot = .current → w.roll = true →
        t.link.roll = s.link.roll ∧ t.link.again = s.link.again) ∧
      (∀ w ∈ s.link.onWire, s.link.stateSlot = .current → w.roll = false →
        t.link.roll = true ∧ t.link.again = true) ∧
      t.svc = ⟨.hunt, .held (responseFrame 0x32 .ok []) false⟩ ∧
      s.link.sameButQueue t.link ∧ t = { s with link := t.link, svc := t.svc })
  ∧
  (∀ (s : State), s.powered = true → s.svc.buffer = .empty → s.station.state ≠ .sharing →
    exec .rollcall s =
      .next { s with svc := ⟨.hunt, .held (responseFrame 0x32 .refused []) false⟩ })

/-- R45, R203: LINK_TEST sets the mask and the count, replacing any test; a mask of 0 or a count outside
1 to 16 is BAD_ARGUMENT and leaves a test unchanged; in CONFIG and LEFT it is refused. -/
def Obligations.LinkTestSetsMaskAndCount : Prop :=
  (∀ (s : State) (mask : BitVec 16) (count : Byte), s.powered = true → s.svc.buffer = .empty →
    s.station.state ≠ .config → s.station.state ≠ .left → mask ≠ 0 → 1 ≤ count.toNat →
    count.toNat ≤ 16 →
    exec (.linkTest mask count) s =
      .next { s with
        link.testMask := mask
        link.testCount := count.toNat
        svc := ⟨.hunt, .held (responseFrame 0x33 .ok []) false⟩ })
  ∧
  (∀ (s : State) (mask : BitVec 16) (count : Byte), s.powered = true → s.svc.buffer = .empty →
    s.station.state ≠ .config → s.station.state ≠ .left →
    mask = 0 ∨ ¬(1 ≤ count.toNat ∧ count.toNat ≤ 16) →
    exec (.linkTest mask count) s =
      .next { s with svc := ⟨.hunt, .held (responseFrame 0x33 .badArgument []) false⟩ })
  ∧
  (∀ (s : State) (mask : BitVec 16) (count : Byte), s.powered = true → s.svc.buffer = .empty →
    s.station.state = .config ∨ s.station.state = .left →
    exec (.linkTest mask count) s =
      .next { s with svc := ⟨.hunt, .held (responseFrame 0x33 .refused []) false⟩ })

/-- R201, R203: SERVICE_RESTART is answered OK in every state and its restart waits for the end of the
response; an unknown code, or a wrong length, is answered BAD_ARGUMENT with the code echoed. -/
def Obligations.AnswersWithoutEffect : Prop :=
  (∀ (s : State), s.powered = true → s.svc.buffer = .empty →
    exec .serviceRestart s =
      .next { s with svc := ⟨.hunt, .held (responseFrame 0x30 .ok []) true⟩ })
  ∧
  (∀ (s : State) (code : Byte) (payload : List Byte), s.powered = true →
    s.svc.buffer = .empty → isRequest (.unknownRequest code payload) = true →
    exec (.unknownRequest code payload) s =
      .next { s with svc := ⟨.hunt, .held (responseFrame code.toNat .badArgument []) false⟩ })

/-- R198, R200: the service receiver's own events move it between HUNT and COLLECT and touch nothing
else. -/
def Obligations.ServiceReceiverMoves : Prop :=
  (∀ (s : State), s.powered = true → s.svc.rx = .hunt →
    exec .serviceStartCharacter s = .next { s with svc.rx := .collect })
  ∧
  (∀ (s : State), s.powered = true → s.svc.rx = .collect →
    exec .serviceLengthZero s = .next { s with svc.rx := .hunt })
  ∧
  (∀ (s : State) (cause : ServiceAbort), s.powered = true → s.svc.rx = .collect →
    exec (.serviceFrameAbort cause) s = .next { s with svc.rx := .hunt })
  ∧
  (∀ (s : State) (frame : List Byte), s.powered = true → completeServiceFrame frame = true →
    crcGood frame = false →
    exec (.serviceFrameBadCrc frame) s = .next { s with svc.rx := .hunt })
  ∧
  (∀ (s : State), s.powered = true → s.svc.buffer ≠ .empty →
    exec .requestDiscardedBusy s = .next { s with svc.rx := .hunt })

/-- R200: a request completed while the buffer is HELD is discarded without answer, whatever it asks. -/
def Obligations.HeldBufferDiscardsRequests : Prop :=
  ∀ (c : Instr) (s : State), s.powered = true → isRequest c = true → s.svc.buffer ≠ .empty →
    exec c s = .next { s with svc.rx := .hunt }

/-! ## The roof link -/

/-- R25, R35: an idle link takes the receiver from DISCARD to HUNT, and the backoff count of the current
frame starts once the spacing timer is not running. That LINK_IDLE leaves COLLECT as it is is the
model's choice (log entry 15). -/
def Obligations.LinkIdleStartsTheBackoff : Prop :=
  (∀ (s : State), s.powered = true → s.link.rxOn = true → s.link.onWire = none →
    s.link.cutOff = false → s.link.busy = true →
    exec .linkIdle s =
      .next { s with
        link := { s.link with
          idle := true, afterFrame := false
          rx := if s.link.rx = .discard then .hunt else s.link.rx
          backoff :=
            if s.link.spacing.isSome then none
            else if s.link.backoff.isSome then s.link.backoff
            else some ((s.number - 1 + 13 * (s.link.attempts - 1)) % 48) } })
  ∧
  (∀ (s : State), s.powered = true → s.link.rxOn = true → s.link.onWire = none →
    s.link.cutOff = false → s.link.leaveSlot = .empty → s.link.shedSlot = .empty →
    s.link.stateSlot = .empty →
    exec .linkIdle s =
      .next { s with
        link := { s.link with
          idle := true, afterFrame := false
          rx := if s.link.rx = .discard then .hunt else s.link.rx
          backoff := none } })

/-- R25, R41, R42: what the receiver gives up is counted once, saturating at 65,535, and puts it in
DISCARD; a start character puts it in COLLECT; an own echo is taken without effect. -/
def Obligations.ReceiverCountsRejectedFrames : Prop :=
  (∀ (s : State) (cause : ReceiveAbort), s.powered = true → s.link.listening = true →
    abortOccurs s.link.rx cause = true →
    exec (.receiveAbort cause) s =
      .next { s with
        link := { s.link with
          idle := false, backoff := none, rx := .discard, afterFrame := false
          rejected := min 65535 (s.link.rejected + 1) } })
  ∧
  (∀ (s : State) (frame : List Byte), s.powered = true → s.link.canReceive = true →
    completeFrame frame = true → parseFrame frame = none →
    exec (.frameRejected frame) s =
      .next { s with
        link := { s.link with
          idle := false, backoff := none, rx := .discard, afterFrame := true
          rejected := min 65535 (s.link.rejected + 1) } })
  ∧
  (∀ (s : State), s.powered = true → s.link.listening = true → s.link.rx = .discard →
    s.link.afterFrame = true →
    exec .charactersAfterFrame s =
      .next { s with
        link := { s.link with
          idle := false, backoff := none, afterFrame := false
          rejected := min 65535 (s.link.rejected + 1) } })
  ∧
  (∀ (s : State), s.powered = true → s.link.listening = true → s.link.rx = .hunt →
    exec .frameStartCharacter s =
      .next { s with link := { s.link with idle := false, backoff := none, rx := .collect } })
  ∧
  (∀ (s : State) (frame : List Byte) (f : Frame), s.powered = true → s.link.canReceive = true →
    parseFrame frame = some f → f.station = s.number → f.identity = s.identity →
    exec (.ownEcho frame) s =
      .next { s with
        link := { s.link with
          idle := false, backoff := none, rx := .discard, afterFrame := true } })

/-- R14, R19, R44, R51 to R53, R61, R62: a STATE from another station loads the silence timer, takes
its entry whole, recomputes the effective ceiling, may end isolation and answers ROLL. -/
def Obligations.StateReceivedUpdatesItsEntry : Prop :=
  ∀ (s : State) (frame : List Byte) (n : Nat) (id : BitVec 32) (f : StateFrame),
    s.powered = true → s.link.canReceive = true →
    parseFrame frame = some ⟨n, id, .state f⟩ → n ≠ s.number →
    ∃ t, exec (.stateReceived frame) s = .next t ∧
      t.entry n =
        { state := .fresh, report := some f.report, claim := f.claim, mark := (s.entry n).mark
          freshness := some 5000, claimHold := f.claim.map (fun _ => 5000) } ∧
      (∀ m : Nat, m ≠ n → t.entry m = s.entry m) ∧
      t.station = { s.station with
        silence := some 6000
        state :=
          if s.station.state = .isolated ∧ s.station.cause ≠ .duplicate ∧
            s.station.cause ≠ .none ∧ s.link.drops = 0 then .sharing else s.station.state
        cause :=
          if s.station.state = .isolated ∧ s.station.cause ≠ .duplicate ∧
            s.station.cause ≠ .none ∧ s.link.drops = 0 then .none else s.station.cause } ∧
      t.table.ceiling ≤ s.cfg.ceiling ∧
      (∀ m : Nat, (t.entry m).state.heard = true →
        ∀ r ∈ (t.entry m).report, t.table.ceiling ≤ r.ceiling) ∧
      (t.table.ceiling = s.cfg.ceiling ∨
        ∃ m : Nat, (t.entry m).state.heard = true ∧
          (t.entry m).report.map Report.ceiling = some t.table.ceiling) ∧
      (t.table.ceiling < s.table.ceiling → t.table.ceiling < s.cfg.ceiling →
        Category.ceilingMismatch.within t.fault.heldSet = true) ∧
      (s.table.ceiling ≤ t.table.ceiling → t.fault = s.fault) ∧
      (f.roll = true → s.station.state.reports = true → t.link.stateSlot.waiting = true) ∧
      ({ s.link with idle := false, rx := .discard, afterFrame := true } : Link).sameButQueue
        t.link ∧
      t = { s with
        station := t.station, table := t.table, link := t.link, adm := t.adm, mode := t.mode,
        stage := t.stage, fault := t.fault, pins := t.pins }

/-- R44, R56, R61: a LEAVE empties the sender's entry but for its neighbour mark, and changes nothing
in an entry already EMPTY. -/
def Obligations.LeaveReceivedEmptiesItsEntry : Prop :=
  ∀ (s : State) (frame : List Byte) (n : Nat) (id : BitVec 32),
    s.powered = true → s.link.canReceive = true →
    parseFrame frame = some ⟨n, id, .leave⟩ → n ≠ s.number →
    ∃ t, exec (.leaveReceived frame) s = .next t ∧
      (if (s.entry n).state = .empty then t.table = s.table
       else t.entry n = { Entry.blank with mark := (s.entry n).mark } ∧
         (∀ m : Nat, (t.entry m).state.heard = true →
           ∀ r ∈ (t.entry m).report, t.table.ceiling ≤ r.ceiling) ∧
         t.table.ceiling ≤ s.cfg.ceiling ∧
         (t.table.ceiling = s.cfg.ceiling ∨
           ∃ m : Nat, (t.entry m).state.heard = true ∧
             (t.entry m).report.map Report.ceiling = some t.table.ceiling)) ∧
      (∀ m : Nat, m ≠ n → t.entry m = s.entry m) ∧
      t.station.silence = some 6000 ∧
      (s.station.state = .isolated → s.station.cause = .silent ∨ s.station.cause = .transmit →
        s.link.drops = 0 → t.station.state = .sharing ∧ t.station.cause = .none) ∧
      (s.station.state ≠ .isolated →
        t.station = { s.station with silence := some 6000 }) ∧
      ({ s.link with idle := false, rx := .discard, afterFrame := true } : Link).sameButQueue
        t.link ∧
      t = { s with
        station := t.station, table := t.table, link := t.link, adm := t.adm, mode := t.mode,
        stage := t.stage, fault := t.fault, pins := t.pins }

/-- R95, R96, R100, R101, R104: a SHED taken in SHARING stops the offered stage when SELF is in the
shedding prefix; otherwise, and in every other station state, no stage is stopped for it. A SHED ends
isolation as every valid frame does (R19); that the Shed Responder ignores the one that does is the
model's reading (log entry 13), since R96 and R104 leave the order of R44's effects open. -/
def Obligations.ShedReceivedStopsTheOfferedStage : Prop :=
  (∀ (s : State) (frame : List Byte) (n : Nat) (id : BitVec 32) (call : ShedCall) (i : Slot),
    s.powered = true → s.link.canReceive = true →
    parseFrame frame = some ⟨n, id, .shed call⟩ → n ≠ s.number →
    s.station.state = .sharing → s.offeredSlot = some i → 0 < s.offer →
    (shedPrefix call.needed (s.candidates n call.level)).any (fun c => c.station == s.number) =
      true →
    ∃ t, exec (.shedReceived frame) s = .next t ∧
      s.stopTaken t i ∧ t.station = { s.station with silence := some 6000 } ∧
      t.link.stateSlot.waiting = true ∧
      ({ s.link with idle := false, rx := .discard, afterFrame := true } : Link).sameButQueue
        t.link ∧
      t = { s with
        station := t.station, link := t.link, adm := t.adm, mode := t.mode, stage := t.stage,
        pins := t.pins })
  ∧
  (∀ (s : State) (frame : List Byte) (n : Nat) (id : BitVec 32) (call : ShedCall),
    s.powered = true → s.link.canReceive = true →
    parseFrame frame = some ⟨n, id, .shed call⟩ → n ≠ s.number →
    (s.station.state = .isolated →
      s.station.cause = .duplicate ∨ s.station.cause = .none ∨ s.link.drops ≠ 0) →
    (s.station.state = .sharing →
      (shedPrefix call.needed (s.candidates n call.level)).any
        (fun c => c.station == s.number) = false) →
    ∃ t, exec (.shedReceived frame) s = .next t ∧
      t.station = { s.station with silence := some 6000 } ∧
      ({ s.link with idle := false, rx := .discard, afterFrame := true } : Link).sameButQueue
        t.link ∧
      (s.startsHeld = true →
        t.stage = { s.stage with presented := t.stage.presented } ∧ t.adm = s.adm ∧
          t.mode = s.mode) ∧
      t = { s with
        station := t.station, link := t.link, adm := t.adm, mode := t.mode, stage := t.stage,
        pins := t.pins })
  ∧
  (∀ (s : State) (frame : List Byte) (n : Nat) (id : BitVec 32) (call : ShedCall),
    s.powered = true → s.link.canReceive = true →
    parseFrame frame = some ⟨n, id, .shed call⟩ → n ≠ s.number →
    s.station.state = .isolated → s.station.cause = .silent ∨ s.station.cause = .transmit →
    s.link.drops = 0 →
    ∃ t, exec (.shedReceived frame) s = .next t ∧
      t.station =
        { s.station with state := .sharing, cause := .none, silence := some 6000 } ∧
      t.link.stateSlot.waiting = true ∧
      (∀ i : Slot, s.isRunning i = true →
        (s.formMode .plain).wantedCool = s.mode.wantedCool →
        (s.formMode .plain).wantedHeat = s.mode.wantedHeat → t.slot i = s.slot i) ∧
      ({ s.link with idle := false, rx := .discard, afterFrame := true } : Link).sameButQueue
        t.link ∧
      t = { s with
        station := t.station, link := t.link, adm := t.adm, mode := t.mode, stage := t.stage,
        pins := t.pins })

/-- R97, R99, R100: the candidates are the entries the rule admits, in the rule's order, and the
shedding prefix is the shortest leading part whose offers reach the needed load. -/
def Obligations.SheddingPrefixIsShortest : Prop :=
  (∀ (s : State) (caller level : Nat),
    (s.candidates caller level).Pairwise (fun a b => b.before a = false) ∧
      ∀ c : Candidate, c ∈ s.candidates caller level ↔
        (∃ e ∈ s.numbered, s.candidateOf e = some c) ∧ 0 < c.offer ∧ c.level + 2 ≤ level ∧
          c.station ≠ caller)
  ∧
  (∀ (needed : Nat) (list : List Candidate),
    ∃ rest, shedPrefix needed list ++ rest = list ∧
      (needed ≤ ((shedPrefix needed list).map Candidate.offer).sum ∨ rest = []) ∧
      ∀ k, k < (shedPrefix needed list).length →
        ((list.take k).map Candidate.offer).sum < needed)

/-- R18, R43: a duplicate isolates the station, but in SHUTDOWN only sets the latch and in LEFT does
nothing. -/
def Obligations.DuplicateIsolates : Prop :=
  (∀ (s : State) (frame : List Byte) (f : Frame), s.powered = true → s.link.canReceive = true →
    parseFrame frame = some f → f.station = s.number → f.identity ≠ s.identity →
    s.station.state = .joining ∨ s.station.state = .sharing ∨ s.station.state = .solo ∨
      s.station.state = .isolated →
    ∃ t, exec (.duplicateDetected frame) s = .next t ∧
      t.station = { s.station with
        state := .isolated, cause := .duplicate, duplicate := true
        join := if s.station.state = .joining then none else s.station.join } ∧
      Category.duplicate.within t.fault.heldSet = true ∧
      ({ s.link with idle := false, rx := .discard, afterFrame := true } : Link).sameButQueue
        t.link ∧
      t = { s with
        station := t.station, link := t.link, adm := t.adm, mode := t.mode, stage := t.stage,
        fault := t.fault, pins := t.pins })
  ∧
  (∀ (s : State) (frame : List Byte) (f : Frame), s.powered = true → s.link.canReceive = true →
    parseFrame frame = some f → f.station = s.number → f.identity ≠ s.identity →
    s.station.state = .shutdown →
    ∃ t, exec (.duplicateDetected frame) s = .next t ∧
      t.station = { s.station with duplicate := true } ∧
      Category.duplicate.within t.fault.heldSet = true ∧
      ({ s.link with idle := false, rx := .discard, afterFrame := true } : Link).sameButQueue
        t.link ∧
      t = { s with
        station := t.station, link := t.link, stage := t.stage, fault := t.fault
        pins := t.pins } ∧
      t.stage = { s.stage with presented := t.stage.presented })
  ∧
  (∀ (s : State) (frame : List Byte) (f : Frame), s.powered = true → s.link.canReceive = true →
    parseFrame frame = some f → f.station = s.number → f.identity ≠ s.identity →
    s.station.state = .left →
    ∃ t, exec (.duplicateDetected frame) s = .next t ∧
      ({ s.link with idle := false, rx := .discard, afterFrame := true } : Link).sameButQueue
        t.link ∧
      t = { s with link := t.link, stage := t.stage, pins := t.pins } ∧
      t.stage = { s.stage with presented := t.stage.presented })

/-- R33, R36, R45: an attempt asserts LNK_DE and sends the current frame, a STATE with the content of
the moment, its CRC combined with the test mask while the test count is above 0. -/
def Obligations.AttemptTakesFreshContent : Prop :=
  (∀ (s : State), s.powered = true → s.link.backoff.isSome = true →
    ∃ t, exec .attemptBegin s = .next t ∧
      t.link = { s.link with
        idle := false, backoff := none, rx := .discard, afterFrame := false
        again := s.link.again && s.link.stateSlot != .current
        onWire := some
          { bytes := s.currentFrame.encode (if 0 < s.link.testCount then s.link.testMask else 0)
            roll := s.link.stateSlot == .current && s.link.roll } } ∧
      t.pins = { s.drivenPins with lnkDe := true } ∧
      t = { s with link := t.link, pins := t.pins })
  ∧
  (∀ (s : State), s.link.leaveSlot ≠ .current → s.link.shedSlot ≠ .current →
    s.currentFrame =
      { station := s.cfg.station, identity := 0x1#4 ++ 0x48#8 ++ s.serial
        body := .state
          { roll := s.link.roll
            report :=
              { identity := 0x1#4 ++ 0x48#8 ++ s.serial
                stationState := s.station.state.code, unitMode := s.mode.mode.code
                level := s.mode.level, ownSensor := s.mode.zoneSource == .own
                spaceTemp := s.mode.zoneTemp
                staged := if s.station.state = .shutdown then 0 else s.stagedLoad
                fan := if s.station.state = .shutdown ∨ s.mode.fan = false then 0
                  else s.cfg.fanLoad
                cap := if s.station.state = .shutdown then 0 else s.cfg.cap
                ceiling := s.cfg.ceiling
                offer := if s.station.state = .shutdown then 0 else s.offer }
            claim := s.adm.claim.map (fun c =>
              { serial := c.serial.toNat, slotCode := slotCode c.slot, increment := c.increment,
                level := c.level, intended := c.intended.code }) } })

/-- R17, R30 to R32, R36 to R38: a failed attempt below the 8th leaves its slot CURRENT and waits again
with the count incremented; the 8th drops the frame, leaves its slot as its kind gives, and the third
consecutive drop and each after it raise LINK_TX and isolate a sharing station; an abandoned frame is
given up without a drop. That held values are queued also after an abandoned SHED is log entry 14. -/
def Obligations.FailedAttemptsRetryThenDrop : Prop :=
  (∀ (s : State) (cause : ReadBackFailure) (w : WireFrame), s.powered = true →
    s.link.onWire = some w → s.link.abandoned = false → s.link.busy = true →
    s.link.attempts < 8 →
    ∃ t, exec (.attemptFailed cause) s = .next t ∧
      t.link.attempts = s.link.attempts + 1 ∧ t.pins.lnkDe = false ∧
      (s.link.leaveSlot = .current → t.link.leaveSlot = .current) ∧
      (s.link.shedSlot = .current →
        t.link.shedSlot = .current ∧ t.link.shedCall = s.link.shedCall) ∧
      (s.link.stateSlot = .current →
        t.link.stateSlot = .current ∧ (s.link.roll = true → t.link.roll = true)) ∧
      (s.startsHeld = true →
        t.link = { s.link with
          onWire := none, cutOff := false, spacing := some 50, backoff := none
          attempts := s.link.attempts + 1 } ∧
        t.adm = s.adm ∧ t.mode = s.mode ∧
          t.stage = { s.stage with presented := t.stage.presented }) ∧
      ({ s.link with onWire := none, cutOff := false, spacing := some 50 } : Link).sameButQueue
        t.link ∧
      t = { s with
        link := t.link, adm := t.adm, mode := t.mode, stage := t.stage, pins := t.pins })
  ∧
  (∀ (s : State) (cause : ReadBackFailure) (w : WireFrame), s.powered = true →
    s.link.onWire = some w → s.link.abandoned = false → 8 ≤ s.link.attempts →
    ∃ t, exec (.attemptFailed cause) s = .next t ∧
      t.pins.lnkDe = false ∧
      (s.link.queueLaw = true → s.startsHeld = true →
        ¬(s.station.state = .sharing ∧ 2 ≤ s.link.drops) → s.link.slotsEnded t.link w.roll) ∧
      (s.station.state = .sharing → 2 ≤ s.link.drops →
        t.link.shedSlot = .empty ∧ t.link.heldShed = none ∧ t.link.stateSlot.waiting = true) ∧
      ({ s.link with
          onWire := none, cutOff := false, spacing := some 50
          drops := min 255 (s.link.drops + 1)
          txOn := if s.link.leaveSlot = .current then false else s.link.txOn } :
        Link).sameButQueue t.link ∧
      t = { s with
        station := t.station, link := t.link, adm := t.adm, mode := t.mode, stage := t.stage,
        fault := t.fault, pins := t.pins } ∧
      (s.link.drops + 1 < 3 → t.station = s.station ∧ t.fault = s.fault) ∧
      (3 ≤ s.link.drops + 1 →
        Category.linkTx.within t.fault.heldSet = true ∧
        t.station = { s.station with
          state := if s.station.state = .sharing then .isolated else s.station.state
          cause :=
            if s.station.state = .sharing ∨
                (s.station.state = .isolated ∧ s.station.cause = .silent) then .transmit
            else s.station.cause }))
  ∧
  (∀ (s : State) (cause : ReadBackFailure) (w : WireFrame), s.powered = true →
    s.link.onWire = some w → s.link.abandoned = true →
    ∃ t, exec (.attemptFailed cause) s = .next t ∧
      t.pins.lnkDe = false ∧
      (s.link.queueLaw = true → s.startsHeld = true → s.link.slotsEnded t.link w.roll) ∧
      ({ s.link with
          onWire := none, cutOff := false, spacing := some 50, abandoned := false
          txOn := if s.link.leaveSlot = .current then false else s.link.txOn } :
        Link).sameButQueue t.link ∧
      t = { s with
        link := t.link, adm := t.adm, mode := t.mode, stage := t.stage, pins := t.pins })

/-- R19, R30 to R32, R37, R38, R39, R45: a sent frame leaves its slot as its kind gives, sets the drop
count to 0, loads the spacing timer, reloads the report timer for a STATE, counts a link test down and
may end isolation. That the test count goes down at every sent frame (log entry 12) and that held
values are queued also after an abandoned SHED (log entry 14) is the model's reading. -/
def Obligations.SentFrameEndsTheAttempt : Prop :=
  ∀ (s : State) (w : WireFrame), s.powered = true → s.link.onWire = some w →
    ∃ t, exec .frameSent s = .next t ∧
      t.pins.lnkDe = false ∧ (s.link.leaveSlot = .current → t.link.leaveSlot = .empty) ∧
      (s.link.queueLaw = true → s.startsHeld = true →
        ¬(s.station.state = .isolated ∧ s.station.cause ≠ .duplicate ∧
          s.station.cause ≠ .none ∧ s.station.silence.isSome) →
        s.link.slotsEnded t.link w.roll) ∧
      ({ s.link with
          drops := 0, onWire := none, cutOff := false, spacing := some 50, abandoned := false
          testCount := s.link.testCount - 1
          testMask := if s.link.testCount ≤ 1 then 0 else s.link.testMask
          report :=
            if s.link.stateSlot = .current ∧ s.link.abandoned = false then some 2000
            else s.link.report
          txOn := if s.link.leaveSlot = .current then false else s.link.txOn } :
        Link).sameButQueue t.link ∧
      t.station = { s.station with
        state :=
          if s.station.state = .isolated ∧ s.station.cause ≠ .duplicate ∧
            s.station.cause ≠ .none ∧ s.station.silence.isSome then .sharing
          else s.station.state
        cause :=
          if s.station.state = .isolated ∧ s.station.cause ≠ .duplicate ∧
            s.station.cause ≠ .none ∧ s.station.silence.isSome then .none
          else s.station.cause } ∧
      t = { s with
        station := t.station, link := t.link, adm := t.adm, mode := t.mode, stage := t.stage,
        fault := t.fault, pins := t.pins } ∧ t.fault = s.fault

/-- R11, R34, R35, R39: the link's timers: spacing ends and a backoff count may start, the report timer
requests a STATE and is loaded again, a heard character abandons the count, and the release of a
cut-off frame loads the spacing timer. -/
def Obligations.LinkTimersActOnTheQueue : Prop :=
  (∀ (s : State), s.powered = true → s.link.spacing.isSome = true → s.link.busy = true →
    s.link.backoff = none →
    exec .spacingExpiry s =
      .next { s with
        link := { s.link with
          spacing := none
          backoff :=
            if s.link.idle = true ∧ s.link.onWire = none ∧ s.link.cutOff = false then
              some ((s.number - 1 + 13 * (s.link.attempts - 1)) % 48)
            else none } })
  ∧
  (∀ (s : State), s.powered = true → s.link.report.isSome = true →
    ∃ t, exec .reportTimerExpiry s = .next t ∧ t.link.report = some 2000 ∧
      (s.station.state.reports = true → t.link.stateSlot.waiting = true) ∧
      t.link.rejected = s.link.rejected ∧ t.link.drops = s.link.drops ∧
      t.link.onWire = s.link.onWire ∧ t = { s with link := t.link })
  ∧
  (∀ (s : State), s.powered = true → s.link.backoff.isSome = true →
    exec .backoffAbandoned s =
      .next { s with link := { s.link with backoff := none, idle := false } })
  ∧
  (∀ (s : State), s.powered = true → s.link.cutOff = true →
    ∃ t, exec .cutOffFrameRelease s = .next t ∧ t.link.cutOff = false ∧
      t.link.spacing = some 50 ∧ t.link.onWire = none ∧ t.link.backoff = none ∧
      t.pins.lnkDe = false ∧ t = { s with link := t.link, pins := t.pins })
  ∧
  (∀ (s : State), s.powered = true → s.link.spacing.isSome = true →
    s.link.leaveSlot = .empty → s.link.shedSlot = .empty → s.link.stateSlot = .empty →
    exec .spacingExpiry s =
      .next { s with link := { s.link with spacing := none, backoff := none } })

/-! ## The roof table's timers -/

/-- R54, R55, R57, R61, R124: an entry ages from FRESH to STALE to LOST, losing its claim part at LOST,
its claim hold expiry removes the claim part alone, the effective ceiling stays the least of those that
count, and a change to a marked entry makes the yield test. -/
def Obligations.EntriesAge : Prop :=
  (∀ (s : State) (n : Nat), s.powered = true → (s.entry n).state = .fresh →
    (s.entry n).freshness.isSome = true →
    ∃ t, exec (.freshnessExpiry n) s = .next t ∧
      t.entry n = { s.entry n with state := .stale, freshness := some 5000 } ∧
      (∀ m : Nat, m ≠ n → t.entry m = s.entry m) ∧ t.table.ceiling ≤ s.cfg.ceiling ∧
      (∀ m : Nat, (t.entry m).state.heard = true →
        ∀ r ∈ (t.entry m).report, t.table.ceiling ≤ r.ceiling) ∧
      (t.table.ceiling = s.cfg.ceiling ∨
        ∃ m : Nat, (t.entry m).state.heard = true ∧
          (t.entry m).report.map Report.ceiling = some t.table.ceiling) ∧
      s.stageFrame { t with table := s.table })
  ∧
  (∀ (s : State) (n : Nat), s.powered = true → (s.entry n).state = .stale →
    (s.entry n).freshness.isSome = true →
    ∃ t, exec (.freshnessExpiry n) s = .next t ∧
      t.entry n =
        { s.entry n with
          state := .lost, freshness := none, claim := none, claimHold := none } ∧
      (∀ m : Nat, m ≠ n → t.entry m = s.entry m) ∧ t.table.ceiling ≤ s.cfg.ceiling ∧
      (∀ m : Nat, (t.entry m).state.heard = true →
        ∀ r ∈ (t.entry m).report, t.table.ceiling ≤ r.ceiling) ∧
      (t.table.ceiling = s.cfg.ceiling ∨
        ∃ m : Nat, (t.entry m).state.heard = true ∧
          (t.entry m).report.map Report.ceiling = some t.table.ceiling) ∧
      s.stageFrame { t with table := s.table })
  ∧
  (∀ (s : State) (n : Nat), s.powered = true → (s.entry n).claimHold.isSome = true →
    ∃ t, exec (.claimHoldExpiry n) s = .next t ∧
      t.entry n = { s.entry n with claim := none, claimHold := none } ∧
      (∀ m : Nat, m ≠ n → t.entry m = s.entry m) ∧ t.table.ceiling = s.table.ceiling ∧
      t.fault = s.fault ∧ s.stageFrame { t with table := s.table })
  ∧
  (∀ (s : State) (n m : Nat) (r : Report) (d : Side), s.powered = true →
    (s.entry n).claimHold.isSome = true → (s.entry n).mark = true →
    s.station.state.working = true → s.mode.mode.side = some d → s.mode.yieldHold = none →
    (s.formDemand s.mode).level < 7 → s.runningCount d.opposite = 0 →
    (s.entry m).state = .fresh → (s.entry m).mark = true → (s.entry m).report = some r →
    (if d = .cooling then r.unitMode = 4 else r.unitMode = 3 ∨ r.unitMode = 2) →
    (s.formDemand s.mode).level < r.level ∨
      (r.level = (s.formDemand s.mode).level ∧ m < s.number) →
    ∃ t, exec (.claimHoldExpiry n) s = .next t ∧
      t.mode.yieldHold = some d ∧ t.mode.changeover = some 300000 ∧ t.mode.changeoverSide = d ∧
      t.wanted d = 0 ∧ t.wanted d.opposite = 0 ∧
      t.mode.mode = (if t.mode.fan then .vent else .off) ∧ t.mode.fullOpen = .stopped ∧
      t.link.stateSlot.waiting = true ∧ t.fault = s.fault ∧
      s.stageFrame { t with table := s.table })

/-! ## Admitting load -/

/-- R69, R81, R82, R83, R119, R143: at settle expiry a claim that is still wanted, that fits with the
claims ahead of it and meets no mode conflict is granted: the stage starts, and a mode entry sets the
mode. The second and third clauses say what is ahead and what a mode conflict is. -/
def Obligations.SettleGrantsAClaimThatFits : Prop :=
  (∀ (s : State) (c : OpenClaim), s.powered = true → s.adm.claim = some c →
    s.adm.state = .settling → s.adm.settle.isSome = true → s.station.state = .sharing →
    s.stillWanted c.slot = true →
    s.base + s.aheadTotal c.level + c.increment ≤ s.table.ceiling →
    s.modeConflict c = false →
    ∃ t, exec .settleExpiry s = .next t ∧
      s.startTaken t c.slot ∧ t.link.stateSlot.waiting = true ∧
      t.adm = { s.adm with state := .idle, claim := none, settle := none, denials := 0 } ∧
      (c.intended = .cool → sideOf c.slot = .cooling → s.mode.yieldHold = none →
        t.mode.mode = .cool) ∧
      (c.intended = .heat → sideOf c.slot = .heating → s.mode.yieldHold = none →
        t.mode.mode = .heat) ∧
      t.fault = s.fault ∧ s.stageFrame t)
  ∧
  (∀ (s : State) (level : Nat),
    s.aheadTotal level =
      ((List.range 48).map (fun k =>
        match (s.entry (k + 1)).claim with
        | some p =>
          if level < p.level ∨ (p.level = level ∧ k + 1 < s.cfg.station) then p.increment else 0
        | none => 0)).sum)
  ∧
  (∀ (s : State) (c : OpenClaim),
    s.modeConflict c = true ↔
      c.intended ≠ .none ∧ s.mode.level < 7 ∧
        ∃ k ∈ List.range 48,
          ((s.entry (k + 1)).state = .fresh ∨ (s.entry (k + 1)).state = .stale) ∧
          (s.entry (k + 1)).mark = true ∧
          ((∃ r ∈ (s.entry (k + 1)).report,
              (c.intended = .cool ∧ r.unitMode = 4) ∨
                (c.intended = .heat ∧ (r.unitMode = 3 ∨ r.unitMode = 2))) ∨
            ∃ p ∈ (s.entry (k + 1)).claim,
              (c.level < p.level ∨ (p.level = c.level ∧ k + 1 < s.cfg.station)) ∧
                ((c.intended = .cool ∧ p.intended = 4) ∨
                  (c.intended = .heat ∧ p.intended = 3))))

/-- R80, R84, R85: at settle expiry a claim that does not fit, or that meets a mode conflict, is denied
with a holdoff by its level; one no longer wanted is withdrawn, at any demand level, and where each side
then wants the stages it runs, or as few as it already wanted, nothing follows it. The last clause says
when a stage is still wanted. That the evaluation of the slot's return to READY comes after a denial is
counted is log entry 8: so c is 0, and not 1, where that evaluation resets it (R72). -/
def Obligations.SettleDeniesOrWithdraws : Prop :=
  (∀ (s : State) (c : OpenClaim), s.powered = true → s.adm.claim = some c →
    s.adm.state = .settling → s.adm.settle.isSome = true → s.station.state = .sharing →
    s.stageState c.slot = .claimed → s.stillWanted c.slot = true →
    (s.table.ceiling < s.base + s.aheadTotal c.level + c.increment ∨ s.modeConflict c = true) →
    ∃ t, exec .settleExpiry s = .next t ∧
      t.adm = { s.adm with
        state := .holdoff, claim := none, settle := none
        holdoff := some ((8 - c.level) * 2000 + (s.number - 1) % 8 * 250)
        denials := t.adm.denials } ∧
      (t.adm.denials = min 255 (s.adm.denials + 1) ∨ t.adm.denials = 0) ∧
      t.stageState c.slot = .ready ∧ t.link.stateSlot.waiting = true ∧ t.fault = s.fault ∧
      s.stageFrame t)
  ∧
  (∀ (s : State) (c : OpenClaim), s.powered = true → s.adm.claim = some c →
    s.adm.state = .settling → s.adm.settle.isSome = true → s.station.state = .sharing →
    s.stageState c.slot = .claimed → s.stillWanted c.slot = false →
    (s.formDemand s.mode).level = 0 →
    ∃ t, exec .settleExpiry s = .next t ∧
      t.adm = { s.adm with
        state := .idle, claim := none, settle := none, denials := t.adm.denials } ∧
      (t.adm.denials = s.adm.denials ∨ t.adm.denials = 0) ∧
      t.stageState c.slot = .ready ∧ t.link.stateSlot.waiting = true ∧ t.fault = s.fault ∧
      s.stageFrame t)
  ∧
  (∀ (s : State) (c : OpenClaim), s.powered = true → s.adm.claim = some c →
    s.adm.state = .settling → s.adm.settle.isSome = true → s.station.state = .sharing →
    s.stageState c.slot = .claimed → s.stillWanted c.slot = false →
    (s.formMode .plain).wantedCool = s.runningCount .cooling ∨
      ((s.formMode .plain).wantedCool ≤ s.runningCount .cooling ∧
        (s.formMode .plain).wantedCool = s.mode.wantedCool) →
    (s.formMode .plain).wantedHeat = s.runningCount .heating ∨
      ((s.formMode .plain).wantedHeat ≤ s.runningCount .heating ∧
        (s.formMode .plain).wantedHeat = s.mode.wantedHeat) →
    ∃ t, exec .settleExpiry s = .next t ∧
      t.adm = { s.adm with
        state := .idle, claim := none, settle := none, denials := t.adm.denials } ∧
      (t.adm.denials = s.adm.denials ∨ t.adm.denials = 0) ∧
      t.stageState c.slot = .ready ∧ t.link.stateSlot.waiting = true ∧ t.fault = s.fault ∧
      s.stageFrame t)
  ∧
  (∀ (s : State) (i : Slot),
    s.stillWanted i = true ↔
      s.mode.side = (if sideOf i = .cooling then .cooling else .heating) ∧
        s.runningCount (sideOf i) < s.wanted (sideOf i) ∧ s.interlocks i = true)

/-- R59, R60, R70, R71, R76 to R79, R85, R86: at the end of a holdoff or a shed wait in SHARING a
presented request is taken with a claim level from the demand level and the denial count, and by the
headroom and the shed threshold opens a claim, calls for a shed, or is denied. The last clause says
what base and the held claims total are. -/
def Obligations.PreCheckDecides : Prop :=
  (∀ (c : Instr) (s : State) (i : Slot), s.powered = true →
    (c = .holdoffExpiry ∧ s.adm.state = .holdoff) ∨
      (c = .shedWaitExpiry ∧ s.adm.state = .shedWait) →
    s.adm.holdoff.isSome = true → s.station.state = .sharing → 1 ≤ s.mode.level →
    s.select.stage.presented = some i →
    s.base + s.heldTotal + s.increment i ≤ s.table.ceiling →
    ∃ t, exec c s = .next t ∧
      t.adm.claim = some
        { serial := s.adm.lastSerial + 1, slot := i, increment := s.increment i
          level := if s.mode.level = 7 then 7 else min 6 (s.mode.level + s.adm.denials / 2)
          intended :=
            if s.runningCount (sideOf i) = 0 then
              (if sideOf i = .cooling then .cool else .heat)
            else .none } ∧
      t.adm.lastSerial = s.adm.lastSerial + 1 ∧ t.adm.state = .settling ∧
      t.adm.settle = some 1500 ∧ t.adm.holdoff = none ∧
      t.adm.headroom = (s.table.ceiling : Int) - (s.base + s.heldTotal : Nat) ∧
      t.stageState i = .claimed ∧ t.link.stateSlot.waiting = true ∧ t.fault = s.fault ∧
      s.stageFrame t)
  ∧
  (∀ (c : Instr) (s : State) (i : Slot), s.powered = true →
    (c = .holdoffExpiry ∧ s.adm.state = .holdoff) ∨
      (c = .shedWaitExpiry ∧ s.adm.state = .shedWait) →
    s.adm.holdoff.isSome = true → s.station.state = .sharing → 1 ≤ s.mode.level →
    s.select.stage.presented = some i →
    s.table.ceiling < s.base + s.heldTotal + s.increment i →
    s.cfg.shedThreshold ≤
      (if s.mode.level = 7 then 7 else min 6 (s.mode.level + s.adm.denials / 2)) →
    s.adm.shedSpacing = none →
    ∃ t, exec c s = .next t ∧
      t.adm =
        { s.adm with
          state := .shedWait, holdoff := some 4000, shedSpacing := some 60000
          lastLevel := if s.mode.level = 7 then 7 else min 6 (s.mode.level + s.adm.denials / 2)
          headroom := (s.table.ceiling : Int) - (s.base + s.heldTotal : Nat) } ∧
      (s.link.shedSlot ≠ .current →
        t.link.shedSlot.waiting = true ∧
        t.link.shedCall =
          ⟨t.adm.lastLevel, s.base + s.heldTotal + s.increment i - s.table.ceiling⟩) ∧
      (s.link.shedSlot = .current →
        t.link.heldShed = some
          ⟨t.adm.lastLevel, s.base + s.heldTotal + s.increment i - s.table.ceiling⟩) ∧
      t.stage.slots = s.stage.slots ∧ t.mode = s.mode ∧ t.fault = s.fault ∧ s.stageFrame t)
  ∧
  (∀ (c : Instr) (s : State) (i : Slot), s.powered = true →
    (c = .holdoffExpiry ∧ s.adm.state = .holdoff) ∨
      (c = .shedWaitExpiry ∧ s.adm.state = .shedWait) →
    s.adm.holdoff.isSome = true → s.station.state = .sharing → 1 ≤ s.mode.level →
    s.select.stage.presented = some i →
    s.table.ceiling < s.base + s.heldTotal + s.increment i →
    ((if s.mode.level = 7 then 7 else min 6 (s.mode.level + s.adm.denials / 2)) <
        s.cfg.shedThreshold ∨ s.adm.shedSpacing.isSome = true) →
    ∃ t, exec c s = .next t ∧
      t.adm =
        { s.adm with
          state := .holdoff
          holdoff := some ((8 - t.adm.lastLevel) * 2000 + (s.number - 1) % 8 * 250)
          lastLevel := if s.mode.level = 7 then 7 else min 6 (s.mode.level + s.adm.denials / 2)
          denials := min 255 (s.adm.denials + 1)
          headroom := (s.table.ceiling : Int) - (s.base + s.heldTotal : Nat) } ∧
      t.stage.slots = s.stage.slots ∧ t.mode = s.mode ∧ t.fault = s.fault ∧ s.stageFrame t)
  ∧
  (∀ (c : Instr) (s : State), s.powered = true →
    (c = .holdoffExpiry ∧ s.adm.state = .holdoff) ∨
      (c = .shedWaitExpiry ∧ s.adm.state = .shedWait) →
    s.adm.holdoff.isSome = true →
    s.select.stage.presented = none ∨ s.mode.level = 0 ∨ s.station.state.working = false →
    ∃ t, exec c s = .next t ∧
      t.adm = { s.adm with state := .idle, holdoff := none } ∧
      t.stage.slots = s.stage.slots ∧ t.mode = s.mode ∧ t.fault = s.fault ∧ s.stageFrame t)
  ∧
  (∀ (s : State),
    s.base =
      ((List.range 48).map (fun k =>
        match (s.entry (k + 1)).state, (s.entry (k + 1)).report with
        | .self, _ =>
          if s.station.state = .shutdown then 0
          else s.stagedLoad + if s.mode.fan = true then s.cfg.fanLoad else 0
        | .fresh, some r => r.staged + r.fan
        | .stale, some r => r.staged + r.fan
        | .lost, some r => r.cap + r.fan
        | _, _ => 0)).sum ∧
    s.heldTotal =
      ((List.range 48).map (fun k =>
        match (s.entry (k + 1)).claim with
        | some p => p.increment
        | none => 0)).sum)

/-- R73 to R75: in ISOLATED a request is decided at once against the fallback cap, in SOLO against the
own configured ceiling with the fan load counted. -/
def Obligations.LocalDecisionKeepsTheLimit : Prop :=
  (∀ (s : State) (i : Slot) (counted limit : Nat), s.powered = true →
    s.adm.state = .holdoff → s.adm.holdoff.isSome = true →
    (s.station.state = .isolated ∧ counted = s.stagedLoad ∧ limit = s.cfg.cap) ∨
      (s.station.state = .solo ∧ counted = s.stagedLoad + s.fanLoad ∧
        limit = s.cfg.ceiling) →
    1 ≤ s.mode.level → s.select.stage.presented = some i →
    counted + s.increment i ≤ limit →
    ∃ t, exec .holdoffExpiry s = .next t ∧
      s.startTaken t i ∧ t.adm.state = .idle ∧ t.adm.claim = s.adm.claim ∧
      t.adm.denials = 0 ∧ t.adm.headroom = (limit : Int) - counted ∧
      t.adm.lastSerial = s.adm.lastSerial ∧ t.fault = s.fault ∧ s.stageFrame t)
  ∧
  (∀ (s : State) (i : Slot) (counted limit : Nat), s.powered = true →
    s.adm.state = .holdoff → s.adm.holdoff.isSome = true →
    (s.station.state = .isolated ∧ counted = s.stagedLoad ∧ limit = s.cfg.cap) ∨
      (s.station.state = .solo ∧ counted = s.stagedLoad + s.fanLoad ∧
        limit = s.cfg.ceiling) →
    1 ≤ s.mode.level → s.select.stage.presented = some i →
    limit < counted + s.increment i →
    ∃ t, exec .holdoffExpiry s = .next t ∧
      t.adm.state = .holdoff ∧ t.adm.denials = min 255 (s.adm.denials + 1) ∧
      t.adm.holdoff = some ((8 - t.adm.lastLevel) * 2000 + (s.number - 1) % 8 * 250) ∧
      t.adm.headroom = (limit : Int) - counted ∧ t.stage.slots = s.stage.slots ∧
      t.mode = s.mode ∧ t.link = s.link ∧ t.fault = s.fault ∧ s.stageFrame t)

/-! ## Zone demand and unit mode -/

/-- R109 to R112, R115, R117: the zone temperature is the own reading, else the rounded mean of the
contributing neighbours, else none; it gives the demand side and the four calls, each with its two
thresholds; and the economizer is available by the configuration and its three channels. Every damper
timer expiry re-forms them. -/
def Obligations.ZoneTemperatureAndSide : Prop :=
  ∀ (s : State) (temps : List Int) (c h : Int), s.powered = true →
    s.mode.damperTimer.isSome = true → s.station.state ≠ .config →
    temps = s.table.entries.toList.filterMap (fun e =>
      if e.state = .fresh ∧ e.mark = true then
        e.report.bind (fun r => if r.ownSensor = true then r.spaceTemp else none)
      else none) →
    c = s.cfg.coolSetpoint + (if s.accepted .occ = .inactive then s.cfg.setback else 0) →
    h = s.cfg.heatSetpoint - (if s.accepted .occ = .inactive then s.cfg.setback else 0) →
    ∃ t, exec .damperTimerExpiry s = .next t ∧
      (∀ v : Int, s.reading .zone = some v → t.mode.zoneTemp = some v ∧ t.mode.zoneSource = .own) ∧
      (s.reading .zone = none → temps = [] →
        t.mode.zoneTemp = none ∧ t.mode.zoneSource = .none ∧ t.mode.side = .none ∧
          t.mode.level = 0 ∧ t.mode.cool1 = false ∧ t.mode.cool2 = false ∧
          t.mode.heat1 = false ∧ t.mode.heat2 = false) ∧
      (s.reading .zone = none → temps ≠ [] →
        t.mode.zoneTemp = some ⌊(temps.sum : ℚ) / temps.length + 1 / 2⌋ ∧
          t.mode.zoneSource = .neighbours) ∧
      (∀ z ∈ t.mode.zoneTemp,
        t.mode.side = (if c < z then .cooling else if z < h then .heating else .none) ∧
          t.mode.cool1 =
            (if 5 ≤ z - c then true else if z - c ≤ 0 then false else s.mode.cool1) ∧
          t.mode.cool2 =
            (if 15 ≤ z - c then true else if z - c ≤ 8 then false else s.mode.cool2) ∧
          t.mode.heat1 =
            (if 5 ≤ h - z then true else if h - z ≤ 0 then false else s.mode.heat1) ∧
          t.mode.heat2 =
            (if 15 ≤ h - z then true else if h - z ≤ 8 then false else s.mode.heat2)) ∧
      (t.mode.econAvailable = true ↔
        s.cfg.econEnable = true ∧ (s.reading .supply).isSome = true ∧
          ∃ o ∈ s.reading .outdoor, ∃ r ∈ s.reading .ret,
            o < s.cfg.econLimit ∧ o ≤ r - 10) ∧
      t.mode.damperTimer = some 1000 ∧ t.fault = s.fault ∧ s.stageFrame t

/-- R113: the demand level of the demand side's error and the configured hard band, as every evaluation
forms it and as a damper timer expiry leaves it; and the level is 0 whenever the side is NONE, after
every step and at power-up. -/
def Obligations.DemandLevelOfTheError : Prop :=
  (∀ (s : State) (z e : Int), s.powered = true → s.mode.damperTimer.isSome = true →
    s.station.state ≠ .config → s.zoneReading.1 = some z →
    e = (if s.coolSetpoint < z then z - s.coolSetpoint
         else if z < s.heatSetpoint then s.heatSetpoint - z else 0) →
    ∃ t, exec .damperTimerExpiry s = .next t ∧
      (e < 5 → t.mode.level = 0) ∧
      (5 ≤ e → e < s.cfg.hardBand → (t.mode.level : Int) = min 6 (1 + (e - 5) / 5)) ∧
      (5 ≤ e → s.cfg.hardBand ≤ e → t.mode.level = 7) ∧
      (t.mode.side = .none → t.mode.level = 0))
  ∧
  (∀ (s : State) (cause : EvalCause) (e : Int),
    e = (match s.zoneReading.1 with
      | none => 0
      | some z =>
        if s.coolSetpoint < z then z - s.coolSetpoint
        else if z < s.heatSetpoint then s.heatSetpoint - z else 0) →
    (e < 5 → (s.formMode cause).level = 0) ∧
      (5 ≤ e → e < s.cfg.hardBand →
        ((s.formMode cause).level : Int) = min 6 (1 + (e - 5) / 5)) ∧
      (5 ≤ e → s.cfg.hardBand ≤ e → (s.formMode cause).level = 7) ∧
      ((s.formMode cause).side = .none → (s.formMode cause).level = 0))
  ∧
  (∀ (s : State), s.powered = true → s.mode.damperTimer.isSome = true →
    s.station.state ≠ .config → s.zoneReading.1 = none →
    ∃ t, exec .damperTimerExpiry s = .next t ∧ t.mode.side = .none ∧ t.mode.level = 0)
  ∧
  (∀ (s t : State), (s.mode.side = .none → s.mode.level = 0) → step s = .next t →
    t.mode.side = .none → t.mode.level = 0)
  ∧
  State.reset.mode.side = .none ∧ State.reset.mode.level = 0

/-- R128, R129: the damper step moves the command toward the target of the evaluation it follows, by at
most 20; with the fan off the command is 0; and the target is the economizer law's in ECON and in COOL
with the economizer available, else the minimum while occupied, else 0. -/
def Obligations.DamperStepsTowardItsTarget : Prop :=
  ∀ (s : State), s.powered = true → s.mode.damperTimer.isSome = true →
    s.station.state ≠ .config →
    ∃ t, exec .damperTimerExpiry s = .next t ∧
      ((s.formMode .plain).fan = true →
        t.mode.damper = damperToward s.mode.damper (s.formMode .plain).damperTarget) ∧
      ((s.formMode .plain).fan = false → t.mode.damper = 0) ∧
      (t.mode.fan = false → t.mode.damperTarget = 0) ∧
      (t.mode.fan = true →
        t.mode.mode = .econ ∨ (t.mode.mode = .cool ∧ t.mode.econAvailable = true) →
        ∃ v : Int, s.reading .supply = some v ∧
          (t.mode.damperTarget : Int) =
            max (s.cfg.damperMin : Int)
              (min 1000 ((s.cfg.damperMin : Int) + ((v - s.cfg.satTarget) * s.cfg.gain).tdiv 10))) ∧
      (t.mode.fan = true →
        ¬(t.mode.mode = .econ ∨ (t.mode.mode = .cool ∧ t.mode.econAvailable = true)) →
        t.mode.damperTarget = if s.accepted .occ = .inactive then 0 else s.cfg.damperMin) ∧
      t.mode.damperTimer = some 1000 ∧ t.pins.dmp = s.pins.dmp ∧ s.stageFrame t

/-- R116, R117, R120, R121, R123, R125, R130: the changeover expiry ends the block and forms the counts
anew; the full-open expiry in ECON moves the mode to COOL when the zone is still 0.5 °C or more too
warm, and else stays expired; and at the damper timer expiry ECON is entered when nothing bars it, and
a yield hold is kept against an opposite neighbour and else ends. That the changeover side stays as it
was once the timer has expired is the model's choice (log entry 26). That the damper minimum is at most
1000 follows for a held record from R205 (`recordLaw`, kept by every step). -/
def Obligations.ModeTimersExpire : Prop :=
  (∀ (s : State), s.powered = true → s.mode.changeover.isSome = true →
    s.mode.mode ≠ .econ → (∀ i : Slot, s.isRunning i = false) →
    ∃ t, exec .changeoverExpiry s = .next t ∧
      t.mode.changeover = none ∧ t.mode.changeoverSide = s.mode.changeoverSide ∧ t.fault = s.fault ∧
      (s.station.state.working = true → t.mode.yieldHold ≠ some .heating →
        t.mode.wantedHeat = t.mode.heat1.toNat + t.mode.heat2.toNat) ∧
      s.stageFrame t)
  ∧
  (∀ (s : State) (z : Int) (d : Nat), s.powered = true → s.mode.fullOpen = .running d →
    s.station.state.working = true → s.mode.mode = .econ → s.mode.damper = 1000 →
    s.mode.yieldHold = none → s.economizerAvailable = true → s.zoneReading.1 = some z →
    s.heatSetpoint ≤ s.coolSetpoint → 5 ≤ z - s.coolSetpoint →
    ∃ t, exec .fullOpenExpiry s = .next t ∧
      t.mode.mode = .cool ∧ t.mode.fullOpen = .stopped ∧ t.fault = s.fault ∧ s.stageFrame t)
  ∧
  (∀ (s : State) (z : Int) (d : Nat), s.powered = true → s.mode.fullOpen = .running d →
    s.station.state.working = true → s.mode.mode = .econ → s.mode.cool1 = true →
    s.mode.yieldHold = none → s.economizerAvailable = true → s.zoneReading.1 = some z →
    s.heatSetpoint ≤ s.coolSetpoint → 0 < z - s.coolSetpoint → z - s.coolSetpoint < 5 →
    ∃ t, exec .fullOpenExpiry s = .next t ∧
      t.mode.mode = .econ ∧ t.mode.fullOpen = .expired ∧ t.fault = s.fault ∧ s.stageFrame t)
  ∧
  (∀ (s : State) (m : ModeLogic), s.powered = true → s.mode.changeover.isSome = true →
    s.startsHeld = true → m = ({ s with mode.changeover := none } : State).formMode .plain →
    s.runningCount .cooling ≤ m.wantedCool ∨ m.wantedCool = s.mode.wantedCool →
    s.runningCount .heating ≤ m.wantedHeat ∨ m.wantedHeat = s.mode.wantedHeat →
    ∃ t, exec .changeoverExpiry s = .next t ∧
      t.mode = m ∧ t.stage.slots = s.stage.slots ∧ t.stage.order = s.stage.order ∧
      (s.mode.mode ≠ .econ → m.changeover = none ∧ m.changeoverSide = s.mode.changeoverSide) ∧
      (s.station.state.working = true → s.mode.mode = .econ → s.mode.yieldHold = none →
        s.zoneReading.1 = none →
        m.changeover = some 300000 ∧ m.changeoverSide = .cooling ∧ m.mode.side = none ∧
          m.fullOpen = .stopped) ∧
      t.fault = s.fault ∧ s.stageFrame t)
  ∧
  (∀ (s : State) (z : Int), s.powered = true → s.mode.damperTimer.isSome = true →
    s.station.state.working = true → s.mode.mode = .off ∨ s.mode.mode = .vent →
    s.mode.yieldHold = none → s.zoneReading.1 = some z → 5 ≤ z - s.coolSetpoint →
    s.heatSetpoint ≤ s.coolSetpoint → s.economizerAvailable = true →
    s.runningCount .cooling = 0 →
    s.mode.changeover = none ∨ s.mode.changeoverSide = .cooling → s.mode.damper ≤ 1000 →
    s.cfg.damperMin ≤ 1000 →
    (∀ n : Nat, (s.entry n).state.heard = true → (s.entry n).mark = true →
      (s.entry n).report.map Report.unitMode ≠ some 4 ∧
        (s.entry n).claim.map ClaimPart.intended ≠ some 4) →
    ∃ t, exec .damperTimerExpiry s = .next t ∧
      t.mode.mode = .econ ∧ t.mode.wantedCool = 0 ∧ t.mode.fan = true ∧ t.pins.fan = true ∧
      t.mode.fullOpen = (if t.mode.damper = 1000 then .running 120000 else .stopped) ∧
      t.link.stateSlot.waiting = true ∧ t.fault = s.fault ∧ s.stageFrame t)
  ∧
  (∀ (s : State) (d : Side) (n : Nat) (r : Report), s.powered = true →
    s.mode.damperTimer.isSome = true → s.station.state.working = true →
    s.mode.yieldHold = some d → (s.formDemand s.mode).level ≠ 7 →
    (s.entry n).state.heard = true → (s.entry n).mark = true → (s.entry n).report = some r →
    (if d = .cooling then r.unitMode = 4 else r.unitMode = 3 ∨ r.unitMode = 2) →
    ∃ t, exec .damperTimerExpiry s = .next t ∧
      t.mode.yieldHold = some d ∧ t.wanted d = 0 ∧ t.fault = s.fault ∧ s.stageFrame t)
  ∧
  (∀ (s : State) (d : Side), s.powered = true → s.mode.damperTimer.isSome = true →
    s.station.state.working = true → s.mode.yieldHold = some d → s.oneSide = true →
    s.heatSetpoint ≤ s.coolSetpoint →
    (s.formDemand s.mode).level = 7 ∨
      (∀ n : Nat, (s.entry n).state.heard = true → (s.entry n).mark = true →
        ∀ r ∈ (s.entry n).report,
          ¬(if d = .cooling then r.unitMode = 4 else r.unitMode = 3 ∨ r.unitMode = 2)) →
    ∃ t, exec .damperTimerExpiry s = .next t ∧
      t.mode.yieldHold = none ∧
      (0 < s.runningCount d → s.mode.changeover = none ∨ s.mode.changeoverSide = d →
        ∀ z ∈ t.mode.zoneTemp,
          5 ≤ (if d = .cooling then z - s.coolSetpoint else s.heatSetpoint - z) →
          t.mode.mode = (if d = .cooling then .cool else .heat) ∧
            t.wanted d =
              if d = .cooling then 1 + t.mode.cool2.toNat else 1 + t.mode.heat2.toNat) ∧
      t.fault = s.fault ∧ s.stageFrame t)

/-- R126, R127: at the off-delay expiry the fan goes off, with mode OFF and the damper at 0, when
nothing demands it; while the station is occupied it stays on. -/
def Obligations.OffDelayTurnsTheFanOff : Prop :=
  (∀ (s : State), s.powered = true → s.mode.offDelay.isSome = true →
    s.station.state.working = true → s.occupied = false → s.zoneReading.1 = none →
    (∀ i : Slot, s.isRunning i = false ∧ s.stageState i ≠ .claimed) →
    ∃ t, exec .offDelayExpiry s = .next t ∧
      t.mode.fan = false ∧ t.mode.offDelay = none ∧ t.mode.mode = .off ∧
      t.mode.damper = 0 ∧ t.mode.damperTarget = 0 ∧ t.pins.fan = false ∧
      (s.mode.fan = true → t.stage.fanProof = .idle ∧ t.stage.fanProofTimer = none) ∧
      t.fault = s.fault ∧ s.stageFrame t)
  ∧
  (∀ (s : State), s.powered = true → s.mode.offDelay.isSome = true →
    s.station.state.working = true → s.occupied = true →
    ∃ t, exec .offDelayExpiry s = .next t ∧
      t.mode.fan = true ∧ t.mode.offDelay = none ∧ t.pins.fan = true ∧ t.fault = s.fault ∧
      s.stageFrame t)
  ∧
  (∀ (s : State) (z : Int), s.powered = true → s.mode.offDelay.isSome = true →
    s.station.state.working = true → s.occupied = false → s.zoneReading.1 = some z →
    s.heatSetpoint ≤ z → z ≤ s.coolSetpoint →
    (∀ i : Slot, s.isRunning i = false ∧ s.stageState i ≠ .claimed) →
    ∃ t, exec .offDelayExpiry s = .next t ∧
      t.mode.fan = false ∧ t.mode.offDelay = none ∧ t.mode.mode = .off ∧
      t.mode.wantedCool = 0 ∧ t.mode.wantedHeat = 0 ∧
      t.mode.damper = 0 ∧ t.mode.damperTarget = 0 ∧ t.pins.fan = false ∧ t.fault = s.fault ∧
      s.stageFrame t)
  ∧
  (∀ (s : State), s.powered = true → s.mode.offDelay.isSome = true →
    s.station.state.working = true → s.occupied = false →
    (s.formMode .plain).wantedCool = 0 → (s.formMode .plain).wantedHeat = 0 →
    (s.formMode .plain).mode ≠ .econ →
    (∀ i : Slot, s.isRunning i = false ∧ s.stageState i ≠ .claimed) →
    ∃ t, exec .offDelayExpiry s = .next t ∧
      t.mode.fan = false ∧ t.mode.offDelay = none ∧ t.mode.damper = 0 ∧
      t.mode.mode =
        (if (s.formMode .plain).mode.side = none then .off else (s.formMode .plain).mode) ∧
      t.pins.fan = false ∧ t.fault = s.fault ∧ s.stageFrame t)

/-! ## Stage control -/

/-- R138, R139: in WAITING the fan is proven by an active FAN_PROVE; otherwise, and in RECOVERING, the
fan proof fails: every running stage is stopped and FAN_PROVE is raised. An accepted FAN_PROVE proves a
RECOVERING or FAILED fan, and its loss takes a PROVEN fan to RECOVERING for 30 s. -/
def Obligations.FanProofDecides : Prop :=
  (∀ (s : State), s.powered = true → s.stage.fanProofTimer.isSome = true →
    s.station.state.working = true → s.mode.fan = true → s.stage.fanProof = .waiting →
    s.accepted .fanProve = .active →
    ∃ t, exec .fanProofExpiry s = .next t ∧
      t.stage.fanProof = .proven ∧ t.stage.fanProofTimer = none ∧ t.fault = s.fault ∧
      (∀ i : Slot, s.isRunning i = true → s.startsHeld = true → t.slot i = s.slot i) ∧
      s.stageFrame t)
  ∧
  (∀ (s : State), s.powered = true → s.stage.fanProofTimer.isSome = true →
    s.station.state.working = true → s.mode.fan = true →
    (s.stage.fanProof = .waiting ∧ s.accepted .fanProve ≠ .active) ∨
      s.stage.fanProof = .recovering →
    ∃ t, exec .fanProofExpiry s = .next t ∧
      t.stage.fanProof = .failed ∧ t.stage.fanProofTimer = none ∧
      Category.fanProve.within t.fault.heldSet = true ∧
      (∀ i : Slot, s.isRunning i = true → t.stageState i = .offLock ∧
        (t.slot i).timer = some ((s.slotConfig i).minOff * 1000) ∧
        (t.slot i).history = (s.slot i).history) ∧
      s.stageFrame t)
  ∧
  (∀ (s : State) (pinHigh : Bool), s.accepts .fanProve pinHigh true = true →
    s.stage.fanProof ≠ .idle →
    ∃ t, exec (.inputSample .fanProve pinHigh) s = .next t ∧
      t.stage.fanProof =
        (if s.stage.fanProof = .recovering ∨ s.stage.fanProof = .failed then .proven
         else s.stage.fanProof) ∧
      t.stage.fanProofTimer =
        (if s.stage.fanProof = .recovering then none else s.stage.fanProofTimer) ∧
      t.accepted .fanProve = .active ∧ t.fault = s.fault ∧ s.stageFrame { t with inputs := s.inputs })
  ∧
  (∀ (s : State) (pinHigh : Bool), s.accepts .fanProve pinHigh false = true →
    s.stage.fanProof ≠ .idle →
    ∃ t, exec (.inputSample .fanProve pinHigh) s = .next t ∧
      t.stage.fanProof =
        (if s.stage.fanProof = .proven then .recovering else s.stage.fanProof) ∧
      t.stage.fanProofTimer =
        (if s.stage.fanProof = .proven then some 30000 else s.stage.fanProofTimer) ∧
      t.accepted .fanProve = .inactive ∧ t.fault = s.fault ∧
      s.stageFrame { t with inputs := s.inputs })

/-- R144, R145, R152, R157: at prove expiry a stage enters RUN_LOCK or trips: a compressor by its
low-pressure switch, a heat stage by a HEAT_PROVE not accepted active. -/
def Obligations.ProveExpiryProvesOrTrips : Prop :=
  (∀ (s : State) (i : Slot), s.powered = true → s.stageState i = .proving →
    (s.slot i).prove.isSome = true → s.proveFailure i = none →
    ∃ t, exec (.proveExpiry i) s = .next t ∧
      t.slot i = { s.slot i with state := .runLock, prove := none } ∧
      t.pins.stages.get i = true ∧ t.fault = s.fault ∧ s.stageFrame t)
  ∧
  (∀ (s : State) (i : Slot) (cause : Category), s.powered = true →
    s.stageState i = .proving → (s.slot i).prove.isSome = true →
    s.proveFailure i = some cause →
    ∃ t, exec (.proveExpiry i) s = .next t ∧ s.tripTaken t i cause ∧ s.stageFrame t)
  ∧
  (∀ (s : State),
    s.proveFailure .c1 = (if s.accepted .lp1 = .active then some .lp1 else none) ∧
      s.proveFailure .c2 = (if s.accepted .lp2 = .active then some .lp2 else none) ∧
      s.proveFailure .h1 =
        (if s.accepted .heatProve = .active then none else some .heatProve) ∧
      s.proveFailure .h2 =
        (if s.accepted .heatProve = .active then none else some .heatProve))
  ∧
  (∀ (s : State) (pinHigh : Bool), s.accepts .heatProve pinHigh true = true →
    ∃ t, exec (.inputSample .heatProve pinHigh) s = .next t ∧
      (∀ i : Slot, sideOf i = .heating → s.stageState i = .proving →
        t.slot i = { s.slot i with state := .runLock, prove := none } ∧
          t.pins.stages.get i = true) ∧
      (s.startsHeld = true → (∀ i : Slot, sideOf i = .heating → s.stageState i ≠ .proving) →
        t.stage.slots = s.stage.slots) ∧
      t.fault = s.fault ∧ s.stageFrame { t with inputs := s.inputs })
  ∧
  (∀ (s : State) (pinHigh : Bool), s.accepts .heatProve pinHigh false = true →
    ∃ t, exec (.inputSample .heatProve pinHigh) s = .next t ∧
      (∀ i : Slot, sideOf i = .heating →
        s.stageState i = .runLock ∨ s.stageState i = .runFree →
        s.tripTaken t i .heatProve) ∧
      (∀ i : Slot, sideOf i = .heating → s.stageState i = .proving → t.slot i = s.slot i) ∧
      s.stageFrame { t with inputs := s.inputs })
  ∧
  (∀ (s : State) (n : Circuit) (r : InputRole) (cause : Category) (pinHigh : Bool),
    (n = .one ∧ r = .lp1 ∧ cause = .lp1) ∨ (n = .two ∧ r = .lp2 ∧ cause = .lp2) →
    s.accepts r pinHigh true = true →
    ∃ t, exec (.inputSample r pinHigh) s = .next t ∧
      (s.stageState (slotOfCircuit n) = .runLock ∨ s.stageState (slotOfCircuit n) = .runFree →
        s.tripTaken t (slotOfCircuit n) cause) ∧
      (s.stageState (slotOfCircuit n) ≠ .runLock → s.stageState (slotOfCircuit n) ≠ .runFree →
        t.fault = s.fault ∧ (s.startsHeld = true → t.stage.slots = s.stage.slots)) ∧
      s.stageFrame { t with inputs := s.inputs })

/-- R146, R147: at min-run expiry a stage is free to stop, and with its side's wanted count at 0 it stops
at the same event; a side that still wants all its running stages keeps it in RUN_FREE. -/
def Obligations.MinRunFreesTheStage : Prop :=
  (∀ (s : State) (i : Slot), s.powered = true → s.stageState i = .runLock →
    (s.slot i).timer.isSome = true → s.orderLaw = true → s.wanted (sideOf i) = 0 →
    ∃ t, exec (.minRunExpiry i) s = .next t ∧ t.stageState i = .offLock ∧
      (t.slot i).timer = some ((s.slotConfig i).minOff * 1000) ∧ i ∉ t.stage.order ∧
      t.fault = s.fault ∧ s.stageFrame t)
  ∧
  (∀ (s : State) (i : Slot), s.powered = true → s.stageState i = .runLock →
    (s.slot i).timer.isSome = true → s.oneSide = true → s.startsHeld = true →
    s.runningCount (sideOf i) ≤ s.wanted (sideOf i) →
    s.runningCount (sideOf i) ≤
      (match sideOf i with
        | .cooling => (s.formMode .plain).wantedCool
        | .heating => (s.formMode .plain).wantedHeat) →
    ∃ t, exec (.minRunExpiry i) s = .next t ∧
      t.slot i = { s.slot i with state := .runFree, timer := none } ∧
      t.pins.stages.get i = true ∧ t.fault = s.fault ∧ s.stageFrame t)

/-- R140 to R142, R148, R152: the off-time timers end in READY and in OFF_LOCK, and each of the
min-off, trip delay and inter-stage expiries ends with a selection: a presented slot meets the
conditions of R141, and with none presented no slot does. The last clause says what the start
interlocks of each slot are. -/
def Obligations.OffTimersAndSelection : Prop :=
  (∀ (s : State) (i : Slot), s.powered = true → s.stageState i = .offLock →
    (s.slot i).timer.isSome = true → s.startsHeld = true →
    ∃ t, exec (.minOffExpiry i) s = .next t ∧
      t.slot i = { s.slot i with state := .ready, timer := none } ∧ t.fault = s.fault ∧
      s.stageFrame t)
  ∧
  (∀ (s : State) (i : Slot), s.powered = true → s.stageState i = .tripped →
    (s.slot i).timer.isSome = true →
    ∃ t, exec (.tripDelayExpiry i) s = .next t ∧
      t.slot i =
        { s.slot i with state := .offLock, timer := some ((s.slotConfig i).minOff * 1000) } ∧
      t.selectionLaw ∧ t.fault = s.fault ∧ s.stageFrame t)
  ∧
  (∀ (s : State), s.powered = true → s.stage.interStage.isSome = true →
    ∃ t, exec .interStageExpiry s = .next t ∧
      (∀ i : Slot, t.stage.presented = some i →
        t.runningCount (sideOf i) < t.wanted (sideOf i) ∧ t.stageState i = .ready ∧
          t.stage.interStage = none ∧ t.interlocks i = true ∧
          ∀ j : Slot, t.stageState j ≠ .claimed) ∧
      (t.stage.presented = none → ∀ i : Slot, t.selectable i = false) ∧
      (s.startsHeld = true →
        t.stage = { s.stage with interStage := none, presented := t.stage.presented } ∧
          t.adm = s.adm ∧ t.mode = s.mode ∧ t.link = s.link) ∧
      t.fault = s.fault ∧ s.stageFrame t)
  ∧
  (∀ (s : State) (i : Slot), s.powered = true → s.stageState i = .offLock →
    (s.slot i).timer.isSome = true →
    ∃ t, exec (.minOffExpiry i) s = .next t ∧ t.selectionLaw ∧ t.stageState i ≠ .offLock ∧
      t.fault = s.fault ∧ s.stageFrame t)
  ∧
  (∀ (s : State) (i : Slot),
    s.interlocks i = true ↔
      (∀ r : InputRole, s.accepted r ≠ .unsettled) ∧
        match i with
        | .c1 =>
          s.stage.fanProof = .proven ∧ s.accepted .hp1 ≠ .active ∧
            s.isRunning .h1 = false ∧ s.isRunning .h2 = false
        | .c2 =>
          s.stage.fanProof = .proven ∧ s.accepted .hp2 ≠ .active ∧
            s.isRunning .h1 = false ∧ s.isRunning .h2 = false ∧
            (s.isRunning .c1 = true ∨ s.stageState .c1 = .unfitted ∨
              s.stageState .c1 = .tripped ∨ s.stageState .c1 = .locked)
        | .h1 =>
          ((s.sensor .supply).state = .valid ∨ (s.sensor .supply).state = .holding ∨
              (s.sensor .supply).state = .unfitted) ∧
            s.isRunning .c1 = false ∧ s.isRunning .c2 = false
        | .h2 =>
          ((s.sensor .supply).state = .valid ∨ (s.sensor .supply).state = .holding ∨
              (s.sensor .supply).state = .unfitted) ∧
            s.isRunning .c1 = false ∧ s.isRunning .c2 = false ∧ s.isRunning .h1 = true)

/-- R152, R154 to R156: at freeze expiry the running compressor of the circuit trips with FREEZEn; a
COILn result loads its freeze timer, when it is not running, at a usable value below 10 while the
compressor runs, and stops it at 10 or more and when the channel is not usable; and a SUPPLY result
above 600 trips every heat stage it finds running. -/
def Obligations.FreezeExpiryTrips : Prop :=
  (∀ (s : State) (n : Circuit), s.powered = true → (s.stage.freeze n).isSome = true →
    s.isRunning (slotOfCircuit n) = true →
    ∃ t, exec (.freezeExpiry n) s = .next t ∧
      s.tripTaken t (slotOfCircuit n) (freezeCategory n) ∧ t.stage.freeze n = none ∧
      s.stageFrame t)
  ∧
  (∀ (s : State) (n : Circuit), s.powered = true → (s.stage.freeze n).isSome = true →
    s.isRunning (slotOfCircuit n) = false → s.startsHeld = true →
    ∃ t, exec (.freezeExpiry n) s = .next t ∧
      t.stage.freeze n = none ∧ t.stage.slots = s.stage.slots ∧ t.fault = s.fault ∧
      s.stageFrame t)
  ∧
  (∀ (s : State) (n : Circuit) (rest : List Conversion) (code : BitVec 12), s.powered = true →
    s.scan.scan = .external (coilOf n) :: rest → s.scan.state = .normal →
    (s.sensor (coilOf n)).state ≠ .unfitted → s.startsHeld = true →
    ∃ t, exec (.conversionComplete code) s = .next t ∧
      (∀ v : Int, t.reading (coilOf n) = some v → v < 10 →
        t.stage.freeze n =
          if s.isRunning (slotOfCircuit n) = true ∧ s.stage.freeze n = none then some 60000
          else s.stage.freeze n) ∧
      (∀ v : Int, t.reading (coilOf n) = some v → 10 ≤ v → t.stage.freeze n = none) ∧
      (t.reading (coilOf n) = none → t.stage.freeze n = none) ∧
      t.stage.slots = s.stage.slots ∧ t.stage.order = s.stage.order ∧
      s.stageFrame { t with scan := s.scan })
  ∧
  (∀ (s : State) (rest : List Conversion) (code : BitVec 12), s.powered = true →
    s.scan.scan = .external .supply :: rest → s.scan.state = .normal →
    ∃ t, exec (.conversionComplete code) s = .next t ∧
      (∀ v : Int, t.reading .supply = some v → 600 < v →
        (∀ i : Slot, sideOf i = .heating →
          (s.isRunning i = true → t.isRunning i = false) ∧
            (s.stageState i = .proving ∨ s.stageState i = .runLock →
              s.tripTaken t i .heatLimit))) ∧
      ((∀ v : Int, t.reading .supply = some v → v ≤ 600) →
        ∀ i : Slot, s.isRunning i = true →
          t.stageState i ≠ .tripped ∧ t.stageState i ≠ .locked) ∧
      s.stageFrame { t with scan := s.scan })

/-! ## The plant's inputs -/

/-- R165, R169 to R175: a result of a fitted channel applied by a NORMAL scanner: the linearised and
clamped temperature seeds or is filtered, and bad samples hold the value and then lose it. -/
def Obligations.ConversionAppliesTheResult : Prop :=
  (∀ (s : State) (ch : Channel) (rest : List Conversion) (code : BitVec 12) (lin v : Int),
    s.powered = true → s.scan.scan = .external ch :: rest → s.scan.state = .normal →
    41 ≤ code.toNat → code.toNat ≤ 4054 →
    lin =
      (let T : List Int := [1500, 1016, 763, 621, 520, 439, 370, 308, 250, 194, 139, 83, 22, -47,
        -132, -256, -600]
       let i := code.toNat / 256
       let f := code.toNat % 256
       T.getD i 0 + ((T.getD (i + 1) 0 - T.getD i 0) * f + 128) / 256) →
    v = max (-400) (min 1000 lin) →
    ∃ t, exec (.conversionComplete code) s = .next t ∧
      ((s.sensor ch).state = .unseen ∨
          ((s.sensor ch).state = .invalid ∧ 3 ≤ (s.sensor ch).goodStreak) →
        (t.sensor ch).state = .valid ∧ (t.sensor ch).value = some v ∧
          (t.sensor ch).acc = 8 * v ∧ (t.sensor ch).badStreak = 0) ∧
      ((s.sensor ch).state = .valid ∨ (s.sensor ch).state = .holding →
        (t.sensor ch).state = .valid ∧
          (t.sensor ch).acc = (s.sensor ch).acc + v - ((s.sensor ch).acc + 4) / 8 ∧
          (t.sensor ch).value = some (((t.sensor ch).acc + 4) / 8) ∧
          (t.sensor ch).badStreak = 0) ∧
      ((s.sensor ch).state = .invalid → (s.sensor ch).goodStreak < 3 →
        t.sensor ch = { s.sensor ch with
          raw := code, goodStreak := (s.sensor ch).goodStreak + 1 }) ∧
      ((s.sensor ch).state ≠ .unfitted → (s.sensor ch).state ≠ .invalid →
        (t.sensor ch).raw = code ∧ (t.sensor ch).clamped = decide (v ≠ lin)) ∧
      (∀ d : Channel, d ≠ ch → t.sensor d = s.sensor d) ∧
      t.scan = { s.scan with sensors := t.scan.sensors, scan := rest } ∧
      s.stageFrame { t with scan := s.scan })
  ∧
  (∀ (s : State) (ch : Channel) (rest : List Conversion) (code : BitVec 12),
    s.powered = true → s.scan.scan = .external ch :: rest → s.scan.state = .normal →
    code.toNat < 41 ∨ 4054 < code.toNat →
    ∃ t, exec (.conversionComplete code) s = .next t ∧
      ((s.sensor ch).state = .valid →
        t.sensor ch = { s.sensor ch with raw := code, state := .holding, badStreak := 1 }) ∧
      ((s.sensor ch).state = .unseen ∨ (s.sensor ch).state = .holding →
        (s.sensor ch).badStreak < 3 →
        t.sensor ch =
          { s.sensor ch with raw := code, badStreak := (s.sensor ch).badStreak + 1 }) ∧
      ((s.sensor ch).state = .unseen ∨ (s.sensor ch).state = .holding →
        3 ≤ (s.sensor ch).badStreak →
        t.sensor ch =
            { s.sensor ch with
              raw := code, state := .invalid, cause := .samples, value := none,
              goodStreak := 0, badStreak := 4 } ∧
          ch.category.within t.fault.heldSet = true) ∧
      ((s.sensor ch).state = .invalid →
        t.sensor ch = { s.sensor ch with raw := code, goodStreak := 0 }) ∧
      (∀ d : Channel, d ≠ ch → t.sensor d = s.sensor d) ∧
      t.scan = { s.scan with sensors := t.scan.sensors, scan := rest } ∧
      s.stageFrame { t with scan := s.scan })

/-- R165 to R168: the second failing reference check in a row makes the scanner SUSPECT and every usable
or unseen channel INVALID; the second passing one makes it NORMAL and every fitted channel UNSEEN; any
other check only counts; and while the scanner is SUSPECT a result only overwrites its raw code. -/
def Obligations.ReferenceCheckCondemnsAndRestores : Prop :=
  (∀ (s : State) (rest : List Conversion) (code : BitVec 12), s.powered = true →
    s.scan.scan = .refLow :: rest → s.scan.state = .normal → s.scan.failStreak = 1 →
    ¬(3879 ≤ s.scan.refHigh.toNat ∧ s.scan.refHigh.toNat ≤ 3903 ∧ 193 ≤ code.toNat ∧
      code.toNat ≤ 217) →
    ∃ t, exec (.conversionComplete code) s = .next t ∧
      t.scan.state = .suspect ∧ t.scan.refLow = code ∧
      (∀ ch : Channel, t.sensor ch =
        if (s.sensor ch).state = .unfitted ∨ (s.sensor ch).state = .invalid then s.sensor ch
        else { s.sensor ch with
          state := .invalid, cause := .reference, value := none, badStreak := 0,
          goodStreak := 0 }) ∧
      Category.refCheck.within t.fault.heldSet = true ∧
      t.scan.refHigh = s.scan.refHigh ∧ t.scan.timer = s.scan.timer ∧ t.scan.scan = rest ∧
      s.stageFrame { t with scan := s.scan })
  ∧
  (∀ (s : State) (rest : List Conversion) (code : BitVec 12), s.powered = true →
    s.scan.scan = .refLow :: rest → s.scan.state = .suspect → s.scan.passStreak = 1 →
    3879 ≤ s.scan.refHigh.toNat → s.scan.refHigh.toNat ≤ 3903 → 193 ≤ code.toNat →
    code.toNat ≤ 217 →
    ∃ t, exec (.conversionComplete code) s = .next t ∧
      t.scan.state = .normal ∧ t.fault = s.fault ∧
      (∀ ch : Channel, t.sensor ch =
        if (s.sensor ch).state = .unfitted then s.sensor ch
        else { s.sensor ch with
          state := .unseen, cause := .none, value := none, badStreak := 0, goodStreak := 0,
          clamped := false }) ∧
      t.scan.refHigh = s.scan.refHigh ∧ t.scan.refLow = code ∧
      t.scan.timer = s.scan.timer ∧ t.scan.scan = rest ∧ s.stageFrame { t with scan := s.scan })
  ∧
  (∀ (s : State) (ch : Channel) (rest : List Conversion) (code : BitVec 12),
    s.powered = true → s.scan.scan = .external ch :: rest → s.scan.state = .suspect →
    (s.sensor ch).state ≠ .unfitted →
    ∃ t, exec (.conversionComplete code) s = .next t ∧
      t.sensor ch = { s.sensor ch with raw := code } ∧
      (∀ d : Channel, d ≠ ch → t.sensor d = s.sensor d) ∧ t.fault = s.fault ∧
      t.scan = { s.scan with sensors := t.scan.sensors, scan := rest } ∧
      s.stageFrame { t with scan := s.scan })
  ∧
  (∀ (s : State) (rest : List Conversion) (code : BitVec 12) (pass : Bool), s.powered = true →
    s.scan.scan = .refLow :: rest →
    pass = decide (3879 ≤ s.scan.refHigh.toNat ∧ s.scan.refHigh.toNat ≤ 3903 ∧
      193 ≤ code.toNat ∧ code.toNat ≤ 217) →
    (s.scan.state = .normal ∧ (pass = true ∨ s.scan.failStreak = 0)) ∨
      (s.scan.state = .suspect ∧ (pass = false ∨ s.scan.passStreak = 0)) →
    ∃ t, exec (.conversionComplete code) s = .next t ∧
      t.scan = { s.scan with
        refLow := code
        scan := rest
        failStreak := if pass then 0 else min 2 (s.scan.failStreak + 1)
        passStreak := if pass then min 2 (s.scan.passStreak + 1) else 0 } ∧
      t.fault = s.fault ∧
      (s.startsHeld = true → t.mode = s.mode ∧ t.stage.slots = s.stage.slots) ∧
      s.stageFrame { t with scan := s.scan })
  ∧
  (∀ (s : State) (rest : List Conversion) (code : BitVec 12), s.powered = true →
    s.scan.scan = .refHigh :: rest →
    ∃ t, exec (.conversionComplete code) s = .next t ∧
      t.scan = { s.scan with refHigh := code, scan := rest } ∧ t.fault = s.fault ∧
      (s.startsHeld = true → t.mode = s.mode ∧ t.stage.slots = s.stage.slots) ∧
      s.stageFrame { t with scan := s.scan })

/-- R181 to R183: a sample against the accepted state, or against the candidate of an UNSETTLED input:
three in a row change it, one under filter NONE, and other inputs are untouched. That the candidate of
a settled input stays as it was is the model's choice (log entry 27). -/
def Obligations.InputSampleAccepts : Prop :=
  (∀ (s : State) (r : InputRole) (pinHigh active : Bool), s.powered = true →
    (s.input r).timer.isSome = true →
    s.accepted r = .active ∨ s.accepted r = .inactive →
    active = (if (s.cfg.inputs.get r).polarity = .activeClosed then !pinHigh else pinHigh) →
    ∃ t, exec (.inputSample r pinHigh) s = .next t ∧
      t.input r =
        { s.input r with
          timer := some (match (s.cfg.inputs.get r).filter with
            | .none => 1
            | .f2 => 2
            | .f20 => 20
            | .f200 => 200)
          streak :=
            if s.accepted r = (if active then .active else .inactive) then 0
            else if (s.cfg.inputs.get r).filter = .none ∨ 2 ≤ (s.input r).streak then 0
            else (s.input r).streak + 1
          accepted :=
            if (s.cfg.inputs.get r).filter = .none ∨ 2 ≤ (s.input r).streak then
              (if active then .active else .inactive)
            else s.accepted r } ∧
      (∀ q : InputRole, q ≠ r → t.input q = s.input q) ∧
      t = { s with
        inputs := t.inputs, station := t.station, link := t.link, adm := t.adm
        mode := t.mode, stage := t.stage, fault := t.fault, pins := t.pins })
  ∧
  (∀ (s : State) (r : InputRole) (pinHigh active : Bool) (n : Nat), s.powered = true →
    (s.input r).timer.isSome = true → s.accepted r = .unsettled →
    active = (if (s.cfg.inputs.get r).polarity = .activeClosed then !pinHigh else pinHigh) →
    n = (if (s.input r).candidate = some active then (s.input r).streak + 1 else 1) →
    ∃ t, exec (.inputSample r pinHigh) s = .next t ∧
      (t.input r).candidate = some active ∧
      ((s.cfg.inputs.get r).filter = .none ∨ 3 ≤ n →
        t.accepted r = (if active then .active else .inactive) ∧ (t.input r).streak = 0) ∧
      ((s.cfg.inputs.get r).filter ≠ .none → n < 3 →
        t.accepted r = .unsettled ∧ (t.input r).streak = n) ∧
      (∀ q : InputRole, q ≠ r → t.input q = s.input q) ∧
      t = { s with
        inputs := t.inputs, station := t.station, link := t.link, adm := t.adm
        mode := t.mode, stage := t.stage, fault := t.fault, pins := t.pins })

/-- R21, R111, R153, R156, R183 to R185: an accepted HPn trips its running compressor, or is raised
alone when that is stopped; an accepted SMOKE shuts a working station down, stops every stage and is
raised, at its first acceptance as at a later one; FILTER is raised and moves nothing; OCC brings an
evaluation with the setpoints it puts in force; and any other first acceptance brings a selection
alone. -/
def Obligations.SafetyInputsAct : Prop :=
  (∀ (s : State) (pinHigh : Bool), s.powered = true → (s.input .hp1).timer.isSome = true →
    s.accepted .hp1 = .inactive → 2 ≤ (s.input .hp1).streak →
    activeLevel (s.cfg.inputs.get .hp1).polarity pinHigh = true →
    ∃ t, exec (.inputSample .hp1 pinHigh) s = .next t ∧
      (s.isRunning .c1 = true → s.tripTaken t .c1 .hp1) ∧
      Category.hp1.within t.fault.heldSet = true ∧
      s.stageFrame { t with inputs := s.inputs })
  ∧
  (∀ (s : State) (pinHigh : Bool), s.powered = true → (s.input .smoke).timer.isSome = true →
    s.accepted .smoke = .inactive → 2 ≤ (s.input .smoke).streak →
    activeLevel (s.cfg.inputs.get .smoke).polarity pinHigh = true →
    s.station.state.working = true →
    ∃ t, exec (.inputSample .smoke pinHigh) s = .next t ∧
      t.station = { s.station with state := .shutdown, cause := .none } ∧
      (∀ i : Slot, s.isRunning i = true → s.stopTaken t i) ∧
      (∀ i : Slot, t.isRunning i = false ∧ t.stageState i ≠ .claimed) ∧
      t.adm.state = .idle ∧ t.adm.claim = none ∧ t.mode.fan = false ∧ t.mode.damper = 0 ∧
      t.link.stateSlot.waiting = true ∧ Category.smoke.within t.fault.heldSet = true ∧
      ({ s.link with abandoned := t.link.abandoned } : Link).sameButQueue t.link ∧
      t = { s with
        inputs := t.inputs, station := t.station, link := t.link, adm := t.adm
        mode := t.mode, stage := t.stage, fault := t.fault, pins := t.pins })
  ∧
  (∀ (s : State) (n : Circuit) (r : InputRole) (cause : Category) (pinHigh : Bool),
    (n = .one ∧ r = .hp1 ∧ cause = .hp1) ∨ (n = .two ∧ r = .hp2 ∧ cause = .hp2) →
    s.accepts r pinHigh true = true →
    ∃ t, exec (.inputSample r pinHigh) s = .next t ∧
      (s.isRunning (slotOfCircuit n) = true → s.tripTaken t (slotOfCircuit n) cause) ∧
      (s.isRunning (slotOfCircuit n) = false →
        t.fault = (s.raise cause).fault ∧
          (s.startsHeld = true → t.stage.slots = s.stage.slots)) ∧
      cause.within t.fault.heldSet = true ∧ s.stageFrame { t with inputs := s.inputs })
  ∧
  (∀ (s : State) (pinHigh : Bool),
    s.accepts .filter pinHigh true = true ∨ s.settles .filter pinHigh true = true →
    ∃ t, exec (.inputSample .filter pinHigh) s = .next t ∧
      t.accepted .filter = .active ∧ Category.filter.within t.fault.heldSet = true ∧
      (s.startsHeld = true →
        t.stage = { s.stage with presented := t.stage.presented } ∧ t.adm = s.adm ∧
          t.mode = s.mode ∧ t.link = s.link) ∧
      s.stageFrame { t with inputs := s.inputs })
  ∧
  (∀ (s : State) (pinHigh active : Bool) (c h : Int), s.accepts .occ pinHigh active = true →
    s.station.state ≠ .config →
    c = s.cfg.coolSetpoint + (if active = true then 0 else s.cfg.setback) →
    h = s.cfg.heatSetpoint - (if active = true then 0 else s.cfg.setback) →
    ∃ t, exec (.inputSample .occ pinHigh) s = .next t ∧
      t.mode.zoneTemp = s.zoneReading.1 ∧
      (∀ z ∈ t.mode.zoneTemp,
        t.mode.side = if c < z then .cooling else if z < h then .heating else .none) ∧
      (active = true → s.station.state.working = true →
        t.mode.fan = true ∧ t.mode.offDelay = none ∧ t.pins.fan = true) ∧
      (active = false → s.station.state.working = true → s.mode.fan = true →
        (s.zoneReading.1 = none ∨ ∃ z ∈ s.zoneReading.1, h ≤ z ∧ z ≤ c) →
        (∀ i : Slot, s.isRunning i = false ∧ s.stageState i ≠ .claimed) →
        t.mode.fan = true ∧ t.mode.offDelay = some (s.mode.offDelay.getD 60000)) ∧
      t.fault = s.fault ∧ s.stageFrame { t with inputs := s.inputs })
  ∧
  (∀ (s : State) (pinHigh : Bool), s.settles .smoke pinHigh true = true →
    ∃ t, exec (.inputSample .smoke pinHigh) s = .next t ∧
      t.accepted .smoke = .active ∧ Category.smoke.within t.fault.heldSet = true ∧
      t.station =
        (if s.station.state.working = true then
          { s.station with state := .shutdown, cause := .none }
         else s.station) ∧
      (s.station.state.working = true →
        (∀ i : Slot, t.isRunning i = false ∧ t.stageState i ≠ .claimed) ∧
          t.adm.claim = none ∧ t.mode.fan = false ∧ t.link.stateSlot.waiting = true) ∧
      ({ s.link with abandoned := t.link.abandoned } : Link).sameButQueue t.link ∧
      t = { s with
        inputs := t.inputs, station := t.station, link := t.link, adm := t.adm
        mode := t.mode, stage := t.stage, fault := t.fault, pins := t.pins })
  ∧
  (∀ (s : State) (r : InputRole) (pinHigh active : Bool), s.settles r pinHigh active = true →
    active = false ∨ (r ≠ .smoke ∧ r ≠ .filter) →
    ∃ t, exec (.inputSample r pinHigh) s = .next t ∧
      t.accepted r = (if active then .active else .inactive) ∧ t.fault = s.fault ∧
      t.selectionLaw ∧
      (s.startsHeld = true →
        t.stage = { s.stage with presented := t.stage.presented } ∧ t.adm = s.adm ∧
          t.mode = s.mode ∧ t.link = s.link) ∧
      s.stageFrame { t with inputs := s.inputs })

/-! ## Laws every step keeps -/

/-- The laws all hold right after power-up. -/
def Obligations.LawsHoldAtReset : Prop :=
  State.reset.pinsFollow = true ∧ State.reset.station.causeLaw = true ∧
    State.reset.fault.uncapturedLaw = true ∧ State.reset.fault.recordApart = true ∧
    State.reset.adm.law = true ∧ State.reset.link.queueLaw = true ∧
    State.reset.table.claimLaw = true ∧ State.reset.ceilingLaw = true ∧
    State.reset.oneSide = true ∧ State.reset.orderLaw = true ∧ State.reset.claimLaw = true ∧
    State.reset.loadLaw = true ∧ State.reset.airLaw = true ∧ State.reset.recordLaw

/-- R9, R126, R135, R36, R196: after every step the pins show what the state drives. -/
def Obligations.PinsFollowStateAlways : Prop :=
  ∀ (s t : State), s.pinsFollow = true → step s = .next t → t.pinsFollow = true

/-- R191, R194 (log entry 11): after every step a non-empty later-fault set goes with an occupied record or
UNCAPTURED, and the record's category is not in the set. -/
def Obligations.FaultLawAlways : Prop :=
  ∀ (s t : State), s.fault.uncapturedLaw = true → s.fault.recordApart = true →
    step s = .next t → t.fault.uncapturedLaw = true ∧ t.fault.recordApart = true

/-- R4, R68, R69: after every step the isolation cause is NONE exactly outside ISOLATED; a claim is open
and the settle timer runs exactly in SETTLING, and the holdoff timer exactly in HOLDOFF and
SHED_WAIT. -/
def Obligations.CauseAndAdmissionLawsAlways : Prop :=
  (∀ (s t : State), s.station.causeLaw = true → step s = .next t → t.station.causeLaw = true)
  ∧
  (∀ (s t : State), s.adm.law = true → step s = .next t → t.adm.law = true)

/-- R30, R54, R61: after every step at most one transmit slot is CURRENT, with an attempt count of 1 to
8; only FRESH and STALE entries hold a claim part, and the effective ceiling does not exceed the own
configured ceiling. -/
def Obligations.QueueAndTableLawsAlways : Prop :=
  (∀ (s t : State), s.link.queueLaw = true → step s = .next t → t.link.queueLaw = true)
  ∧
  (∀ (s t : State), s.table.claimLaw = true → s.ceilingLaw = true → step s = .next t →
    t.table.claimLaw = true ∧ t.ceilingLaw = true)

/-- R151: after every step no compressor and heat stage are in running states together; the start
interlocks of either side need the other stopped, a selection keeps no request whose interlocks fail,
and a claimed stage is still wanted only while they hold. -/
def Obligations.NeverBothSides : Prop :=
  (∀ (s t : State), s.oneSide = true → step s = .next t → t.oneSide = true)
  ∧
  (∀ (s : State) (i j : Slot), s.interlocks i = true → sideOf j ≠ sideOf i →
    s.isRunning j = false)
  ∧
  (∀ (s : State) (i : Slot), s.select.stage.presented = some i → s.interlocks i = true)
  ∧
  (∀ (s : State) (i : Slot), s.stillWanted i = true → s.interlocks i = true)

/-- R6, R69, R136: after every step the running order list holds exactly the running stages, a claim is
open in SHARING for a CLAIMED slot, and the staged load is 0 outside the working states and within the
fallback cap in ISOLATED. -/
def Obligations.LoadLawAlways : Prop :=
  ∀ (s t : State), s.adm.law = true → s.orderLaw = true → s.claimLaw = true →
    s.loadLaw = true → step s = .next t →
    t.orderLaw = true ∧ t.claimLaw = true ∧ t.loadLaw = true

/-- R126, R129, R202: after every step the fan is commanded in the working states alone, the damper is 0
while it is off, and the held record is one that passed validation. -/
def Obligations.AirAndRecordAlways : Prop :=
  ∀ (s t : State), s.airLaw = true → s.recordLaw → step s = .next t →
    t.airLaw = true ∧ t.recordLaw

/-! ## Frames on the link -/

/-- R26, R27, R29, R33, R198, R199, R201: a frame sent without a test mask is read back whole by the
receiver's own parsing, for every value its fields can carry; a request frame of each code and its
length spells its command, and one of another code or length UNKNOWN_REQUEST. -/
def Obligations.FramesReadBackAsSent : Prop :=
  (∀ (f : Frame), 1 ≤ f.station → f.station ≤ 48 → f.identity.extractLsb' 28 4 = 1 →
    (∀ r : StateFrame, f.body = .state r →
      r.report.identity = f.identity ∧ r.report.stationState < 256 ∧ r.report.unitMode < 256 ∧
        r.report.level < 256 ∧ r.report.staged < 65536 ∧ r.report.fan < 65536 ∧
        r.report.cap < 65536 ∧ r.report.ceiling < 65536 ∧ r.report.offer < 65536 ∧
        (∀ v ∈ r.report.spaceTemp, -32768 < v ∧ v < 32768) ∧
        ∀ c ∈ r.claim, c.serial < 256 ∧ c.slotCode < 256 ∧ c.increment < 65536 ∧
          c.level < 256 ∧ c.intended < 256) →
    (∀ c : ShedCall, f.body = .shed c → c.level < 256 ∧ c.needed < 65536) →
    parseFrame (f.encode 0) = some f)
  ∧
  (∀ (record : List Byte) (n slot count : Byte) (set : BitVec 24) (mask : BitVec 16),
    record.length = 70 →
    readRequest (requestFrame 0x01 record) = some (.configure record) ∧
      readRequest (requestFrame 0x02 []) = some .start ∧
      readRequest (requestFrame 0x10 []) = some .readStatus ∧
      readRequest (requestFrame 0x11 [n]) = some (.readEntry n) ∧
      readRequest (requestFrame 0x12 []) = some .readFaults ∧
      readRequest (requestFrame 0x20 (be24 set)) = some (.clear set) ∧
      readRequest (requestFrame 0x21 [slot]) = some (.unlock slot) ∧
      readRequest (requestFrame 0x30 []) = some .serviceRestart ∧
      readRequest (requestFrame 0x31 []) = some .leave ∧
      readRequest (requestFrame 0x32 []) = some .rollcall ∧
      readRequest (requestFrame 0x33 (be16 mask.toNat ++ [count])) = some (.linkTest mask count))
  ∧
  (∀ (code : Byte) (payload : List Byte), payload.length ≤ 254 →
    requestLength code.toNat ≠ some (1 + payload.length) →
    readRequest (requestFrame code.toNat payload) = some (.unknownRequest code payload))

end
end

