-- ==== Sys2Proof/Laws/State.lean ====
section
/-! SUPPORT. The small lemmas of State: reading one slot, input, channel or entry after a write, and,
for each named update, every field it leaves alone. All are simp lemmas, so that no proof unfolds a
record update. -/

namespace Sys2Proof.Machine

/-! ## PerSlot -/

@[simp] theorem PerSlot.get_set_self {α : Type} (p : PerSlot α) (i : Slot) (a : α) :
    (p.set i a).get i = a := by cases i <;> rfl

theorem PerSlot.get_set_ne {α : Type} (p : PerSlot α) (i j : Slot) (a : α) (h : j ≠ i) :
    (p.set i a).get j = p.get j := by cases i <;> cases j <;> first | rfl | exact absurd rfl h

theorem PerSlot.get_set {α : Type} (p : PerSlot α) (i j : Slot) (a : α) :
    (p.set i a).get j = if j = i then a else p.get j := by cases i <;> cases j <;> rfl

@[simp] theorem PerSlot.get_of {α : Type} (f : Slot → α) (i : Slot) : (PerSlot.of f).get i = f i := by
  cases i <;> rfl

@[simp] theorem PerSlot.get_all {α : Type} (a : α) (i : Slot) : (PerSlot.all a).get i = a := by
  cases i <;> rfl

@[simp] theorem PerSlot.set_get {α : Type} (p : PerSlot α) (i : Slot) : p.set i (p.get i) = p := by
  cases i <;> rfl

/-! ## PerInput -/

@[simp] theorem PerInput.get_set_self {α : Type} (p : PerInput α) (i : InputRole) (a : α) :
    (p.set i a).get i = a := by cases i <;> rfl

theorem PerInput.get_set_ne {α : Type} (p : PerInput α) (i j : InputRole) (a : α) (h : j ≠ i) :
    (p.set i a).get j = p.get j := by cases i <;> cases j <;> first | rfl | exact absurd rfl h

theorem PerInput.get_set {α : Type} (p : PerInput α) (i j : InputRole) (a : α) :
    (p.set i a).get j = if j = i then a else p.get j := by cases i <;> cases j <;> rfl

@[simp] theorem PerInput.get_of {α : Type} (f : InputRole → α) (i : InputRole) : (PerInput.of f).get i = f i := by
  cases i <;> rfl

@[simp] theorem PerInput.get_all {α : Type} (a : α) (i : InputRole) : (PerInput.all a).get i = a := by
  cases i <;> rfl

@[simp] theorem PerInput.set_get {α : Type} (p : PerInput α) (i : InputRole) : p.set i (p.get i) = p := by
  cases i <;> rfl

/-! ## PerChannel -/

@[simp] theorem PerChannel.get_set_self {α : Type} (p : PerChannel α) (i : Channel) (a : α) :
    (p.set i a).get i = a := by cases i <;> rfl

theorem PerChannel.get_set_ne {α : Type} (p : PerChannel α) (i j : Channel) (a : α) (h : j ≠ i) :
    (p.set i a).get j = p.get j := by cases i <;> cases j <;> first | rfl | exact absurd rfl h

theorem PerChannel.get_set {α : Type} (p : PerChannel α) (i j : Channel) (a : α) :
    (p.set i a).get j = if j = i then a else p.get j := by cases i <;> cases j <;> rfl

@[simp] theorem PerChannel.get_of {α : Type} (f : Channel → α) (i : Channel) : (PerChannel.of f).get i = f i := by
  cases i <;> rfl

@[simp] theorem PerChannel.get_all {α : Type} (a : α) (i : Channel) : (PerChannel.all a).get i = a := by
  cases i <;> rfl

@[simp] theorem PerChannel.set_get {α : Type} (p : PerChannel α) (i : Channel) : p.set i (p.get i) = p := by
  cases i <;> rfl

/-! ## setSlot -/

@[simp] theorem State.setSlot_powered (s : State) (i : Slot) (r : Stage) : (s.setSlot i r).powered = s.powered := rfl
@[simp] theorem State.setSlot_serial (s : State) (i : Slot) (r : Stage) : (s.setSlot i r).serial = s.serial := rfl
@[simp] theorem State.setSlot_config (s : State) (i : Slot) (r : Stage) : (s.setSlot i r).config = s.config := rfl
@[simp] theorem State.setSlot_station (s : State) (i : Slot) (r : Stage) : (s.setSlot i r).station = s.station := rfl
@[simp] theorem State.setSlot_link (s : State) (i : Slot) (r : Stage) : (s.setSlot i r).link = s.link := rfl
@[simp] theorem State.setSlot_table (s : State) (i : Slot) (r : Stage) : (s.setSlot i r).table = s.table := rfl
@[simp] theorem State.setSlot_adm (s : State) (i : Slot) (r : Stage) : (s.setSlot i r).adm = s.adm := rfl
@[simp] theorem State.setSlot_mode (s : State) (i : Slot) (r : Stage) : (s.setSlot i r).mode = s.mode := rfl
@[simp] theorem State.setSlot_scan (s : State) (i : Slot) (r : Stage) : (s.setSlot i r).scan = s.scan := rfl
@[simp] theorem State.setSlot_inputs (s : State) (i : Slot) (r : Stage) : (s.setSlot i r).inputs = s.inputs := rfl
@[simp] theorem State.setSlot_fault (s : State) (i : Slot) (r : Stage) : (s.setSlot i r).fault = s.fault := rfl
@[simp] theorem State.setSlot_svc (s : State) (i : Slot) (r : Stage) : (s.setSlot i r).svc = s.svc := rfl
@[simp] theorem State.setSlot_seconds (s : State) (i : Slot) (r : Stage) : (s.setSlot i r).seconds = s.seconds := rfl
@[simp] theorem State.setSlot_pins (s : State) (i : Slot) (r : Stage) : (s.setSlot i r).pins = s.pins := rfl
@[simp] theorem State.setSlot_pending (s : State) (i : Slot) (r : Stage) : (s.setSlot i r).pending = s.pending := rfl

@[simp] theorem State.slot_setSlot_self (s : State) (i : Slot) (r : Stage) :
    (s.setSlot i r).slot i = r := by simp [State.slot, State.setSlot]

theorem State.slot_setSlot (s : State) (i j : Slot) (r : Stage) :
    (s.setSlot i r).slot j = if j = i then r else s.slot j := PerSlot.get_set ..

@[simp] theorem State.setSlot_order (s : State) (i : Slot) (r : Stage) :
    (s.setSlot i r).stage.order = s.stage.order := rfl

@[simp] theorem State.setSlot_presented (s : State) (i : Slot) (r : Stage) :
    (s.setSlot i r).stage.presented = s.stage.presented := rfl

@[simp] theorem State.setSlot_interStage (s : State) (i : Slot) (r : Stage) :
    (s.setSlot i r).stage.interStage = s.stage.interStage := rfl

@[simp] theorem State.setSlot_fanProof (s : State) (i : Slot) (r : Stage) :
    (s.setSlot i r).stage.fanProof = s.stage.fanProof := rfl

@[simp] theorem State.setSlot_fanProofTimer (s : State) (i : Slot) (r : Stage) :
    (s.setSlot i r).stage.fanProofTimer = s.stage.fanProofTimer := rfl

/-! ## setSensor -/

@[simp] theorem State.setSensor_powered (s : State) (c : Channel) (r : Sensor) : (s.setSensor c r).powered = s.powered := rfl
@[simp] theorem State.setSensor_serial (s : State) (c : Channel) (r : Sensor) : (s.setSensor c r).serial = s.serial := rfl
@[simp] theorem State.setSensor_config (s : State) (c : Channel) (r : Sensor) : (s.setSensor c r).config = s.config := rfl
@[simp] theorem State.setSensor_station (s : State) (c : Channel) (r : Sensor) : (s.setSensor c r).station = s.station := rfl
@[simp] theorem State.setSensor_link (s : State) (c : Channel) (r : Sensor) : (s.setSensor c r).link = s.link := rfl
@[simp] theorem State.setSensor_table (s : State) (c : Channel) (r : Sensor) : (s.setSensor c r).table = s.table := rfl
@[simp] theorem State.setSensor_adm (s : State) (c : Channel) (r : Sensor) : (s.setSensor c r).adm = s.adm := rfl
@[simp] theorem State.setSensor_mode (s : State) (c : Channel) (r : Sensor) : (s.setSensor c r).mode = s.mode := rfl
@[simp] theorem State.setSensor_stage (s : State) (c : Channel) (r : Sensor) : (s.setSensor c r).stage = s.stage := rfl
@[simp] theorem State.setSensor_inputs (s : State) (c : Channel) (r : Sensor) : (s.setSensor c r).inputs = s.inputs := rfl
@[simp] theorem State.setSensor_fault (s : State) (c : Channel) (r : Sensor) : (s.setSensor c r).fault = s.fault := rfl
@[simp] theorem State.setSensor_svc (s : State) (c : Channel) (r : Sensor) : (s.setSensor c r).svc = s.svc := rfl
@[simp] theorem State.setSensor_seconds (s : State) (c : Channel) (r : Sensor) : (s.setSensor c r).seconds = s.seconds := rfl
@[simp] theorem State.setSensor_pins (s : State) (c : Channel) (r : Sensor) : (s.setSensor c r).pins = s.pins := rfl
@[simp] theorem State.setSensor_pending (s : State) (c : Channel) (r : Sensor) : (s.setSensor c r).pending = s.pending := rfl

theorem State.sensor_setSensor (s : State) (c d : Channel) (r : Sensor) :
    (s.setSensor c r).sensor d = if d = c then r else s.sensor d := PerChannel.get_set ..

/-! ## setInput -/

@[simp] theorem State.setInput_powered (s : State) (r : InputRole) (i : Input) : (s.setInput r i).powered = s.powered := rfl
@[simp] theorem State.setInput_serial (s : State) (r : InputRole) (i : Input) : (s.setInput r i).serial = s.serial := rfl
@[simp] theorem State.setInput_config (s : State) (r : InputRole) (i : Input) : (s.setInput r i).config = s.config := rfl
@[simp] theorem State.setInput_station (s : State) (r : InputRole) (i : Input) : (s.setInput r i).station = s.station := rfl
@[simp] theorem State.setInput_link (s : State) (r : InputRole) (i : Input) : (s.setInput r i).link = s.link := rfl
@[simp] theorem State.setInput_table (s : State) (r : InputRole) (i : Input) : (s.setInput r i).table = s.table := rfl
@[simp] theorem State.setInput_adm (s : State) (r : InputRole) (i : Input) : (s.setInput r i).adm = s.adm := rfl
@[simp] theorem State.setInput_mode (s : State) (r : InputRole) (i : Input) : (s.setInput r i).mode = s.mode := rfl
@[simp] theorem State.setInput_stage (s : State) (r : InputRole) (i : Input) : (s.setInput r i).stage = s.stage := rfl
@[simp] theorem State.setInput_scan (s : State) (r : InputRole) (i : Input) : (s.setInput r i).scan = s.scan := rfl
@[simp] theorem State.setInput_fault (s : State) (r : InputRole) (i : Input) : (s.setInput r i).fault = s.fault := rfl
@[simp] theorem State.setInput_svc (s : State) (r : InputRole) (i : Input) : (s.setInput r i).svc = s.svc := rfl
@[simp] theorem State.setInput_seconds (s : State) (r : InputRole) (i : Input) : (s.setInput r i).seconds = s.seconds := rfl
@[simp] theorem State.setInput_pins (s : State) (r : InputRole) (i : Input) : (s.setInput r i).pins = s.pins := rfl
@[simp] theorem State.setInput_pending (s : State) (r : InputRole) (i : Input) : (s.setInput r i).pending = s.pending := rfl

theorem State.input_setInput (s : State) (r q : InputRole) (i : Input) :
    (s.setInput r i).input q = if q = r then i else s.input q := PerInput.get_set ..

/-! ## setEntry -/

@[simp] theorem State.setEntry_powered (s : State) (n : Nat) (e : Entry) : (s.setEntry n e).powered = s.powered := by
  unfold State.setEntry; split <;> rfl
@[simp] theorem State.setEntry_serial (s : State) (n : Nat) (e : Entry) : (s.setEntry n e).serial = s.serial := by
  unfold State.setEntry; split <;> rfl
@[simp] theorem State.setEntry_config (s : State) (n : Nat) (e : Entry) : (s.setEntry n e).config = s.config := by
  unfold State.setEntry; split <;> rfl
@[simp] theorem State.setEntry_station (s : State) (n : Nat) (e : Entry) : (s.setEntry n e).station = s.station := by
  unfold State.setEntry; split <;> rfl
@[simp] theorem State.setEntry_link (s : State) (n : Nat) (e : Entry) : (s.setEntry n e).link = s.link := by
  unfold State.setEntry; split <;> rfl
@[simp] theorem State.setEntry_adm (s : State) (n : Nat) (e : Entry) : (s.setEntry n e).adm = s.adm := by
  unfold State.setEntry; split <;> rfl
@[simp] theorem State.setEntry_mode (s : State) (n : Nat) (e : Entry) : (s.setEntry n e).mode = s.mode := by
  unfold State.setEntry; split <;> rfl
@[simp] theorem State.setEntry_stage (s : State) (n : Nat) (e : Entry) : (s.setEntry n e).stage = s.stage := by
  unfold State.setEntry; split <;> rfl
@[simp] theorem State.setEntry_scan (s : State) (n : Nat) (e : Entry) : (s.setEntry n e).scan = s.scan := by
  unfold State.setEntry; split <;> rfl
@[simp] theorem State.setEntry_inputs (s : State) (n : Nat) (e : Entry) : (s.setEntry n e).inputs = s.inputs := by
  unfold State.setEntry; split <;> rfl
@[simp] theorem State.setEntry_fault (s : State) (n : Nat) (e : Entry) : (s.setEntry n e).fault = s.fault := by
  unfold State.setEntry; split <;> rfl
@[simp] theorem State.setEntry_svc (s : State) (n : Nat) (e : Entry) : (s.setEntry n e).svc = s.svc := by
  unfold State.setEntry; split <;> rfl
@[simp] theorem State.setEntry_seconds (s : State) (n : Nat) (e : Entry) : (s.setEntry n e).seconds = s.seconds := by
  unfold State.setEntry; split <;> rfl
@[simp] theorem State.setEntry_pins (s : State) (n : Nat) (e : Entry) : (s.setEntry n e).pins = s.pins := by
  unfold State.setEntry; split <;> rfl
@[simp] theorem State.setEntry_pending (s : State) (n : Nat) (e : Entry) : (s.setEntry n e).pending = s.pending := by
  unfold State.setEntry; split <;> rfl

@[simp] theorem State.setEntry_ceiling (s : State) (n : Nat) (e : Entry) :
    (s.setEntry n e).table.ceiling = s.table.ceiling := by unfold State.setEntry; split <;> rfl

/-- The entry written reads back, every other entry as before. -/
theorem State.entry_setEntry (s : State) (n m : Nat) (e : Entry) (h : 1 ≤ n ∧ n ≤ 48) :
    (s.setEntry n e).entry m = if m = n then e else s.entry m := by
  unfold State.setEntry State.entry
  simp only [h, and_self, dite_true]
  by_cases hm : 1 ≤ m ∧ m ≤ 48
  · simp only [hm, and_self, dite_true, Vector.getElem_set]
    by_cases hmn : m = n
    · subst hmn; simp
    · have : n - 1 ≠ m - 1 := by omega
      simp [hmn, this]
  · have hmn : m ≠ n := fun hh => hm (hh ▸ h)
    simp [hm, hmn]

/-! ## serveLink -/

@[simp] theorem State.serveLink_powered (s : State) : (s.serveLink).powered = s.powered := rfl
@[simp] theorem State.serveLink_serial (s : State) : (s.serveLink).serial = s.serial := rfl
@[simp] theorem State.serveLink_config (s : State) : (s.serveLink).config = s.config := rfl
@[simp] theorem State.serveLink_station (s : State) : (s.serveLink).station = s.station := rfl
@[simp] theorem State.serveLink_table (s : State) : (s.serveLink).table = s.table := rfl
@[simp] theorem State.serveLink_adm (s : State) : (s.serveLink).adm = s.adm := rfl
@[simp] theorem State.serveLink_mode (s : State) : (s.serveLink).mode = s.mode := rfl
@[simp] theorem State.serveLink_stage (s : State) : (s.serveLink).stage = s.stage := rfl
@[simp] theorem State.serveLink_scan (s : State) : (s.serveLink).scan = s.scan := rfl
@[simp] theorem State.serveLink_inputs (s : State) : (s.serveLink).inputs = s.inputs := rfl
@[simp] theorem State.serveLink_fault (s : State) : (s.serveLink).fault = s.fault := rfl
@[simp] theorem State.serveLink_svc (s : State) : (s.serveLink).svc = s.svc := rfl
@[simp] theorem State.serveLink_seconds (s : State) : (s.serveLink).seconds = s.seconds := rfl
@[simp] theorem State.serveLink_pins (s : State) : (s.serveLink).pins = s.pins := rfl
@[simp] theorem State.serveLink_pending (s : State) : (s.serveLink).pending = s.pending := rfl

/-! ## requestState -/

@[simp] theorem State.requestState_powered (s : State) (roll : Bool) : (s.requestState roll).powered = s.powered := by
  unfold State.requestState; split <;> rfl
@[simp] theorem State.requestState_serial (s : State) (roll : Bool) : (s.requestState roll).serial = s.serial := by
  unfold State.requestState; split <;> rfl
@[simp] theorem State.requestState_config (s : State) (roll : Bool) : (s.requestState roll).config = s.config := by
  unfold State.requestState; split <;> rfl
@[simp] theorem State.requestState_station (s : State) (roll : Bool) : (s.requestState roll).station = s.station := by
  unfold State.requestState; split <;> rfl
@[simp] theorem State.requestState_table (s : State) (roll : Bool) : (s.requestState roll).table = s.table := by
  unfold State.requestState; split <;> rfl
@[simp] theorem State.requestState_adm (s : State) (roll : Bool) : (s.requestState roll).adm = s.adm := by
  unfold State.requestState; split <;> rfl
@[simp] theorem State.requestState_mode (s : State) (roll : Bool) : (s.requestState roll).mode = s.mode := by
  unfold State.requestState; split <;> rfl
@[simp] theorem State.requestState_stage (s : State) (roll : Bool) : (s.requestState roll).stage = s.stage := by
  unfold State.requestState; split <;> rfl
@[simp] theorem State.requestState_scan (s : State) (roll : Bool) : (s.requestState roll).scan = s.scan := by
  unfold State.requestState; split <;> rfl
@[simp] theorem State.requestState_inputs (s : State) (roll : Bool) : (s.requestState roll).inputs = s.inputs := by
  unfold State.requestState; split <;> rfl
@[simp] theorem State.requestState_fault (s : State) (roll : Bool) : (s.requestState roll).fault = s.fault := by
  unfold State.requestState; split <;> rfl
@[simp] theorem State.requestState_svc (s : State) (roll : Bool) : (s.requestState roll).svc = s.svc := by
  unfold State.requestState; split <;> rfl
@[simp] theorem State.requestState_seconds (s : State) (roll : Bool) : (s.requestState roll).seconds = s.seconds := by
  unfold State.requestState; split <;> rfl
@[simp] theorem State.requestState_pins (s : State) (roll : Bool) : (s.requestState roll).pins = s.pins := by
  unfold State.requestState; split <;> rfl
@[simp] theorem State.requestState_pending (s : State) (roll : Bool) : (s.requestState roll).pending = s.pending := by
  unfold State.requestState; split <;> rfl

/-! ## requestShed -/

@[simp] theorem State.requestShed_powered (s : State) (call : ShedCall) : (s.requestShed call).powered = s.powered := by
  unfold State.requestShed; split
  · split <;> rfl
  · rfl
@[simp] theorem State.requestShed_serial (s : State) (call : ShedCall) : (s.requestShed call).serial = s.serial := by
  unfold State.requestShed; split
  · split <;> rfl
  · rfl
@[simp] theorem State.requestShed_config (s : State) (call : ShedCall) : (s.requestShed call).config = s.config := by
  unfold State.requestShed; split
  · split <;> rfl
  · rfl
@[simp] theorem State.requestShed_station (s : State) (call : ShedCall) : (s.requestShed call).station = s.station := by
  unfold State.requestShed; split
  · split <;> rfl
  · rfl
@[simp] theorem State.requestShed_table (s : State) (call : ShedCall) : (s.requestShed call).table = s.table := by
  unfold State.requestShed; split
  · split <;> rfl
  · rfl
@[simp] theorem State.requestShed_adm (s : State) (call : ShedCall) : (s.requestShed call).adm = s.adm := by
  unfold State.requestShed; split
  · split <;> rfl
  · rfl
@[simp] theorem State.requestShed_mode (s : State) (call : ShedCall) : (s.requestShed call).mode = s.mode := by
  unfold State.requestShed; split
  · split <;> rfl
  · rfl
@[simp] theorem State.requestShed_stage (s : State) (call : ShedCall) : (s.requestShed call).stage = s.stage := by
  unfold State.requestShed; split
  · split <;> rfl
  · rfl
@[simp] theorem State.requestShed_scan (s : State) (call : ShedCall) : (s.requestShed call).scan = s.scan := by
  unfold State.requestShed; split
  · split <;> rfl
  · rfl
@[simp] theorem State.requestShed_inputs (s : State) (call : ShedCall) : (s.requestShed call).inputs = s.inputs := by
  unfold State.requestShed; split
  · split <;> rfl
  · rfl
@[simp] theorem State.requestShed_fault (s : State) (call : ShedCall) : (s.requestShed call).fault = s.fault := by
  unfold State.requestShed; split
  · split <;> rfl
  · rfl
@[simp] theorem State.requestShed_svc (s : State) (call : ShedCall) : (s.requestShed call).svc = s.svc := by
  unfold State.requestShed; split
  · split <;> rfl
  · rfl
@[simp] theorem State.requestShed_seconds (s : State) (call : ShedCall) : (s.requestShed call).seconds = s.seconds := by
  unfold State.requestShed; split
  · split <;> rfl
  · rfl
@[simp] theorem State.requestShed_pins (s : State) (call : ShedCall) : (s.requestShed call).pins = s.pins := by
  unfold State.requestShed; split
  · split <;> rfl
  · rfl
@[simp] theorem State.requestShed_pending (s : State) (call : ShedCall) : (s.requestShed call).pending = s.pending := by
  unfold State.requestShed; split
  · split <;> rfl
  · rfl

/-! ## raise -/

@[simp] theorem State.raise_powered (s : State) (c : Category) : (s.raise c).powered = s.powered := by
  unfold State.raise; split
  · rfl
  · split <;> rfl
@[simp] theorem State.raise_serial (s : State) (c : Category) : (s.raise c).serial = s.serial := by
  unfold State.raise; split
  · rfl
  · split <;> rfl
@[simp] theorem State.raise_config (s : State) (c : Category) : (s.raise c).config = s.config := by
  unfold State.raise; split
  · rfl
  · split <;> rfl
@[simp] theorem State.raise_station (s : State) (c : Category) : (s.raise c).station = s.station := by
  unfold State.raise; split
  · rfl
  · split <;> rfl
@[simp] theorem State.raise_link (s : State) (c : Category) : (s.raise c).link = s.link := by
  unfold State.raise; split
  · rfl
  · split <;> rfl
@[simp] theorem State.raise_table (s : State) (c : Category) : (s.raise c).table = s.table := by
  unfold State.raise; split
  · rfl
  · split <;> rfl
@[simp] theorem State.raise_adm (s : State) (c : Category) : (s.raise c).adm = s.adm := by
  unfold State.raise; split
  · rfl
  · split <;> rfl
@[simp] theorem State.raise_mode (s : State) (c : Category) : (s.raise c).mode = s.mode := by
  unfold State.raise; split
  · rfl
  · split <;> rfl
@[simp] theorem State.raise_stage (s : State) (c : Category) : (s.raise c).stage = s.stage := by
  unfold State.raise; split
  · rfl
  · split <;> rfl
@[simp] theorem State.raise_scan (s : State) (c : Category) : (s.raise c).scan = s.scan := by
  unfold State.raise; split
  · rfl
  · split <;> rfl
@[simp] theorem State.raise_inputs (s : State) (c : Category) : (s.raise c).inputs = s.inputs := by
  unfold State.raise; split
  · rfl
  · split <;> rfl
@[simp] theorem State.raise_svc (s : State) (c : Category) : (s.raise c).svc = s.svc := by
  unfold State.raise; split
  · rfl
  · split <;> rfl
@[simp] theorem State.raise_seconds (s : State) (c : Category) : (s.raise c).seconds = s.seconds := by
  unfold State.raise; split
  · rfl
  · split <;> rfl
@[simp] theorem State.raise_pins (s : State) (c : Category) : (s.raise c).pins = s.pins := by
  unfold State.raise; split
  · rfl
  · split <;> rfl
@[simp] theorem State.raise_pending (s : State) (c : Category) : (s.raise c).pending = s.pending := by
  unfold State.raise; split
  · rfl
  · split <;> rfl

/-! ## drivePins -/

@[simp] theorem State.drivePins_powered (s : State) : (s.drivePins).powered = s.powered := rfl
@[simp] theorem State.drivePins_serial (s : State) : (s.drivePins).serial = s.serial := rfl
@[simp] theorem State.drivePins_config (s : State) : (s.drivePins).config = s.config := rfl
@[simp] theorem State.drivePins_station (s : State) : (s.drivePins).station = s.station := rfl
@[simp] theorem State.drivePins_link (s : State) : (s.drivePins).link = s.link := rfl
@[simp] theorem State.drivePins_table (s : State) : (s.drivePins).table = s.table := rfl
@[simp] theorem State.drivePins_adm (s : State) : (s.drivePins).adm = s.adm := rfl
@[simp] theorem State.drivePins_mode (s : State) : (s.drivePins).mode = s.mode := rfl
@[simp] theorem State.drivePins_stage (s : State) : (s.drivePins).stage = s.stage := rfl
@[simp] theorem State.drivePins_scan (s : State) : (s.drivePins).scan = s.scan := rfl
@[simp] theorem State.drivePins_inputs (s : State) : (s.drivePins).inputs = s.inputs := rfl
@[simp] theorem State.drivePins_fault (s : State) : (s.drivePins).fault = s.fault := rfl
@[simp] theorem State.drivePins_svc (s : State) : (s.drivePins).svc = s.svc := rfl
@[simp] theorem State.drivePins_seconds (s : State) : (s.drivePins).seconds = s.seconds := rfl
@[simp] theorem State.drivePins_pending (s : State) : (s.drivePins).pending = s.pending := rfl

end Sys2Proof.Machine
end

