-- ==== Sys2Proof/Laws/Frames.lean ====
section
/-! SUPPORT. For each shared operation, once, all it can write: the frames the statements are made
with, composed along the way an event takes through the blocks. -/

namespace Sys2Proof.Machine

/-! ## The transmit queue -/

@[simp] theorem Link.sameButQueue_refl (l : Link) : l.sameButQueue l := rfl

theorem Link.sameButQueue_trans {a b c : Link} (h : a.sameButQueue b) (k : b.sameButQueue c) :
    a.sameButQueue c := by
  unfold Link.sameButQueue at *
  rw [k, h]

theorem Link.select_frame (l : Link) : l.sameButQueue l.select := by
  unfold Link.sameButQueue Link.select
  repeat' split
  all_goals rfl

theorem Link.count_frame (n : Nat) (l : Link) : l.sameButQueue (l.count n) := by
  unfold Link.sameButQueue Link.count
  repeat' split
  all_goals rfl

theorem Link.requestState_frame (l : Link) (roll : Bool) : l.sameButQueue (l.requestState roll) := by
  unfold Link.sameButQueue Link.requestState
  repeat' split
  all_goals rfl

/-- Selection and the backoff count move the queue alone. -/
theorem State.serveLink_frame (s : State) : s.link.sameButQueue s.serveLink.link :=
  Link.sameButQueue_trans (Link.select_frame _) (Link.count_frame _ _)

/-- A STATE request moves the queue alone. -/
theorem State.requestState_link (s : State) (roll : Bool) :
    s.link.sameButQueue (s.requestState roll).link := by
  unfold State.requestState
  split
  · exact Link.sameButQueue_trans (Link.requestState_frame _ _)
      (State.serveLink_frame { s with link := s.link.requestState roll })
  · rfl

/-- A SHED request moves the queue alone. -/
theorem State.requestShed_link (s : State) (call : ShedCall) :
    s.link.sameButQueue (s.requestShed call).link := by
  unfold State.requestShed
  split
  · split
    · rfl
    · exact Link.sameButQueue_trans (b := { s.link with shedSlot := .queued, shedCall := call }) rfl
        (State.serveLink_frame { s with link.shedSlot := .queued, link.shedCall := call })
  · rfl

/-! ## What an event of the plant can write -/

@[simp] theorem State.stageFrame_refl (s : State) : s.stageFrame s := ⟨rfl, rfl⟩

theorem State.stageFrame_trans {a b c : State} (h : a.stageFrame b) (k : b.stageFrame c) :
    a.stageFrame c :=
  ⟨by rw [k.1, h.1], Link.sameButQueue_trans h.2 k.2⟩

/-- A state that differs in the plant's own blocks is in the frame. -/
theorem State.stageFrame_plant (s : State) (adm : Admission) (mode : ModeLogic) (stage : StageCtl)
    (fault : FaultCapture) (pins : Pins) :
    s.stageFrame { s with adm := adm, mode := mode, stage := stage, fault := fault, pins := pins } :=
  ⟨rfl, rfl⟩

theorem State.requestState_frame (s : State) (roll : Bool) : s.stageFrame (s.requestState roll) := by
  refine ⟨?_, s.requestState_link roll⟩
  unfold State.requestState
  split <;> rfl

theorem State.requestShed_frame (s : State) (call : ShedCall) : s.stageFrame (s.requestShed call) := by
  refine ⟨?_, s.requestShed_link call⟩
  unfold State.requestShed
  split
  · split <;> rfl
  · rfl

theorem State.raise_frame (s : State) (c : Category) : s.stageFrame (s.raise c) := by
  unfold State.raise
  split
  · exact ⟨rfl, rfl⟩
  · split <;> exact ⟨rfl, rfl⟩

theorem State.setSlot_frame (s : State) (i : Slot) (r : Stage) : s.stageFrame (s.setSlot i r) :=
  ⟨rfl, rfl⟩

theorem State.drivePins_frame (s : State) : s.stageFrame s.drivePins := ⟨rfl, rfl⟩

theorem State.stopSlot_frame (s : State) (i : Slot) : s.stageFrame (s.stopSlot i) := by
  unfold State.stopSlot
  split <;> exact ⟨rfl, rfl⟩

/-- A fold of operations each in the frame is in the frame. -/
theorem State.foldl_frame {α : Type} (f : State → α → State) (hf : ∀ (s : State) (a : α), s.stageFrame (f s a))
    (l : List α) (s : State) : s.stageFrame (l.foldl f s) := by
  induction l generalizing s with
  | nil => exact State.stageFrame_refl s
  | cons a l ih => exact State.stageFrame_trans (hf s a) (ih (f s a))

theorem State.unclaimSlot_frame (s : State) (i : Slot) : s.stageFrame (s.unclaimSlot i) := by
  unfold State.unclaimSlot
  split <;> exact ⟨rfl, rfl⟩

theorem State.trip_frame (s : State) (i : Slot) (cause : Category) : s.stageFrame (s.trip i cause) := by
  have out (r : Stage) : s.stageFrame
      (({ s with stage := s.stage.takeOut i r } : State).raise cause) :=
    State.stageFrame_trans (b := { s with stage := s.stage.takeOut i r }) ⟨rfl, rfl⟩
      (State.raise_frame _ cause)
  unfold State.trip
  split
  · dsimp only
    split
    · exact State.stageFrame_trans (out _) (State.raise_frame _ .lockout)
    · exact out _
  · exact State.stageFrame_refl s

theorem State.testFreeze_frame (s : State) (n : Circuit) : s.stageFrame (s.testFreeze n) := by
  unfold State.testFreeze
  repeat' split
  all_goals exact ⟨rfl, rfl⟩

theorem State.testHeatProve_frame (s : State) (i : Slot) : s.stageFrame (s.testHeatProve i) := by
  unfold State.testHeatProve
  split <;> exact ⟨rfl, rfl⟩

theorem State.startSlot_frame (s : State) (i : Slot) : s.stageFrame (s.startSlot i) := by
  cases i
  · exact State.stageFrame_trans ⟨rfl, rfl⟩ (State.testFreeze_frame _ .one)
  · exact State.stageFrame_trans ⟨rfl, rfl⟩ (State.testFreeze_frame _ .two)
  · exact State.stageFrame_trans ⟨rfl, rfl⟩ (State.testHeatProve_frame _ .h1)
  · exact State.stageFrame_trans ⟨rfl, rfl⟩ (State.testHeatProve_frame _ .h2)

theorem State.fanCommanded_frame (s : State) (on : Bool) : s.stageFrame (s.fanCommanded on) := by
  unfold State.fanCommanded
  repeat' split
  all_goals exact ⟨rfl, rfl⟩

/-! ## Evaluations -/

theorem State.handDemand_frame (s : State) (before : ModeLogic) :
    s.stageFrame (s.handDemand before) := by
  unfold State.handDemand
  split <;> exact ⟨rfl, rfl⟩

theorem State.handFan_frame (s : State) (before : ModeLogic) : s.stageFrame (s.handFan before) := by
  unfold State.handFan
  split
  · exact State.stageFrame_refl s
  · exact State.fanCommanded_frame ..

theorem State.handReport_frame (s : State) (before : ModeLogic) :
    s.stageFrame (s.handReport before) := by
  unfold State.handReport
  split
  · exact State.stageFrame_refl s
  · exact State.requestState_frame ..

theorem State.evaluateOnce_frame (s : State) (cause : EvalCause) :
    s.stageFrame (s.evaluateOnce cause) := by
  unfold State.evaluateOnce
  exact State.stageFrame_trans (State.stageFrame_trans (State.stageFrame_trans
    (b := { s with mode := s.formMode cause }) ⟨rfl, rfl⟩ (State.handDemand_frame ..))
    (State.handFan_frame ..)) (State.handReport_frame ..)

theorem State.reportStages_frame (s before : State) : s.stageFrame (s.reportStages before) := by
  unfold State.reportStages
  dsimp only
  repeat' split
  all_goals first
    | exact ⟨rfl, rfl⟩
    | exact State.stageFrame_trans ⟨rfl, rfl⟩ (State.requestState_frame _ false)

theorem State.reportMove_frame (s before : State) : s.stageFrame (s.reportMove before) := by
  unfold State.reportMove
  split
  · exact State.stageFrame_refl s
  · exact State.stageFrame_trans (State.reportStages_frame _ _) (State.evaluateOnce_frame _ _)

/-- Transitions each in the frame, with their reports, are in the frame. -/
theorem State.moveEach_frame (move : State → Slot → State)
    (hm : ∀ (s : State) (i : Slot), s.stageFrame (move s i)) (slots : List Slot) (s : State) :
    s.stageFrame (s.moveEach move slots) :=
  State.foldl_frame _
    (fun s i => State.stageFrame_trans (hm s i) (State.reportMove_frame _ _)) slots s

theorem State.serveWanted_frame (fuel : Nat) (tested : ModeLogic) (s : State) :
    s.stageFrame (State.serveWanted fuel tested s) := by
  induction fuel generalizing tested s with
  | zero => exact State.stageFrame_refl s
  | succ n ih =>
    unfold State.serveWanted
    split
    · exact State.stageFrame_refl s
    · exact State.stageFrame_trans (State.moveEach_frame _ State.stopSlot_frame _ s) (ih _ _)

/-- All an evaluation, with the normal stops it brings, can write. -/
theorem State.evaluate_frame (s : State) (cause : EvalCause) : s.stageFrame (s.evaluate cause) :=
  State.stageFrame_trans (State.evaluateOnce_frame s cause) (State.serveWanted_frame 4 _ _)

theorem State.stagesMoved_frame (s before : State) : s.stageFrame (s.stagesMoved before) :=
  State.stageFrame_trans (State.reportMove_frame s before) (State.serveWanted_frame 4 _ _)

theorem State.moveAll_frame (move : State → Slot → State)
    (hm : ∀ (s : State) (i : Slot), s.stageFrame (move s i)) (slots : List Slot) (s : State) :
    s.stageFrame (s.moveAll move slots) :=
  State.stageFrame_trans (State.moveEach_frame move hm slots s) (State.serveWanted_frame 4 _ _)

theorem State.stopAll_frame (s : State) : s.stageFrame s.stopAll :=
  State.moveEach_frame _ State.stopSlot_frame _ s

theorem State.stopToCap_frame (s : State) : s.stageFrame s.stopToCap := by
  refine State.moveEach_frame _ (fun s i => ?_) _ s
  split
  · exact State.stopSlot_frame s i
  · exact State.stageFrame_refl s

/-- All the evaluation of a change of station state can write. -/
theorem State.entered_frame (s before : State) : s.stageFrame (s.entered before) :=
  State.stageFrame_trans (State.evaluateOnce_frame s .plain) (State.serveWanted_frame 4 _ _)

/-! ## Start requests -/

theorem State.select_frame (s : State) : s.stageFrame s.select := ⟨rfl, rfl⟩

theorem State.grantMode_frame (s : State) (m : Intended) : s.stageFrame (s.grantMode m) := by
  have set (u : UnitMode) : s.stageFrame (if s.mode.mode = u then s
      else State.requestState { s with mode.mode := u, mode.fullOpen := .stopped }) := by
    split
    · exact State.stageFrame_refl s
    · exact State.stageFrame_trans ⟨rfl, rfl⟩ (State.requestState_frame _ false)
  cases m
  · exact State.stageFrame_refl s
  · exact set .cool
  · exact set .heat

theorem State.grant_frame (s : State) (i : Slot) (m : Intended) : s.stageFrame (s.grant i m) := by
  unfold State.grant
  exact State.stageFrame_trans (State.stageFrame_trans
    (b := { s with adm.denials := 0, stage.presented := none }) ⟨rfl, rfl⟩
    (State.startSlot_frame _ i)) (State.grantMode_frame _ m)

theorem State.deny_frame (s : State) (level : Nat) : s.stageFrame (s.deny level) := ⟨rfl, rfl⟩

theorem State.decideLocal_frame (s : State) (i : Slot) (level counted limit : Nat) :
    s.stageFrame (s.decideLocal i level counted limit) := by
  unfold State.decideLocal
  dsimp only
  split
  · exact State.stageFrame_trans ⟨rfl, rfl⟩ (State.grant_frame _ i _)
  · exact ⟨rfl, rfl⟩

theorem State.openClaim_frame (s : State) (i : Slot) (level : Nat) :
    s.stageFrame (s.openClaim i level) :=
  State.stageFrame_trans ⟨rfl, rfl⟩ (State.requestState_frame _ false)

theorem State.callShed_frame (s : State) (level needed : Nat) :
    s.stageFrame (s.callShed level needed) :=
  State.stageFrame_trans ⟨rfl, rfl⟩ (State.requestShed_frame _ _)

theorem State.preCheck_frame (s : State) (i : Slot) (level : Nat) :
    s.stageFrame (s.preCheck i level) := by
  unfold State.preCheck
  dsimp only
  split
  · exact State.stageFrame_trans ⟨rfl, rfl⟩ (State.openClaim_frame _ i level)
  · split
    · exact State.stageFrame_trans ⟨rfl, rfl⟩ (State.callShed_frame _ level _)
    · exact ⟨rfl, rfl⟩

theorem State.takeRequest_frame (s : State) : s.stageFrame s.takeRequest := by
  unfold State.takeRequest
  split
  · exact State.stageFrame_refl s
  · split
    · dsimp only
      split
      · exact State.stageFrame_trans ⟨rfl, rfl⟩ (State.preCheck_frame _ _ _)
      · exact State.stageFrame_trans ⟨rfl, rfl⟩ (State.decideLocal_frame _ _ _ _ _)
      · exact State.stageFrame_trans ⟨rfl, rfl⟩ (State.decideLocal_frame _ _ _ _ _)
      all_goals exact State.stageFrame_refl s
    · exact State.stageFrame_refl s

theorem State.serveStarts_frame (s : State) : s.stageFrame s.serveStarts :=
  State.stageFrame_trans (State.stageFrame_trans (State.stageFrame_trans (State.select_frame s)
    (State.takeRequest_frame _)) (State.stagesMoved_frame _ _)) (State.select_frame _)

/-- All that the end of every event that can move the plant can write. -/
theorem State.settleStarts_frame (s before : State) : s.stageFrame (s.settleStarts before) := by
  unfold State.settleStarts
  refine State.stageFrame_trans (State.serveStarts_frame s) ?_
  unfold State.reportOffer
  split
  · exact State.stageFrame_refl _
  · exact State.requestState_frame _ false

theorem State.settleInto_frame (s before : State) : s.stageFrame (s.settleInto before) :=
  State.stageFrame_trans (State.settleStarts_frame s before) (State.drivePins_frame _)

/-- Driven pins are what the state drives. -/
theorem State.drivePins_pins (s : State) : s.drivePins.pins = s.drivePins.drivenPins := rfl

/-- The pins at the end of an event are what the state then drives. -/
theorem State.settleInto_pins (s before : State) :
    (s.settleInto before).pins = (s.settleInto before).drivenPins :=
  State.drivePins_pins (s.settleStarts before)

/-- An event that occurs on a powered part is its effect and what follows every event. -/
theorem State.event_runs (s : State) (occurs : Bool) (effect : State → State)
    (hp : s.powered = true) (ho : occurs = true) :
    s.event occurs effect = .next ((effect s).settleInto s) := by
  simp [State.event, hp, ho]

/-- A completed request taken by a powered part whose buffer is EMPTY is handled. -/
theorem State.request_runs (s : State) (handle : State → State) (hp : s.powered = true)
    (hb : s.svc.buffer = .empty) :
    s.request handle = .next (handle { s with svc.rx := .hunt }) := by
  simp [State.request, hp, hb]

end Sys2Proof.Machine
end

