-- ==== Sys2Proof/Laws/Ops.lean ====
section
/-! SUPPORT. What the shared operations do, said once for each: stops, starts, the selection, the ends
of a transmit slot, and how a property is carried through an evaluation. -/

namespace Sys2Proof.Machine

/-! ## Slots -/

@[simp] theorem StageCtl.clearFreeze_slots (g : StageCtl) (i : Slot) :
    (g.clearFreeze i).slots = g.slots := by cases i <;> rfl

@[simp] theorem StageCtl.clearFreeze_order (g : StageCtl) (i : Slot) :
    (g.clearFreeze i).order = g.order := by cases i <;> rfl

@[simp] theorem StageCtl.clearFreeze_fanProof (g : StageCtl) (i : Slot) :
    (g.clearFreeze i).fanProof = g.fanProof := by cases i <;> rfl

@[simp] theorem StageCtl.takeOut_slots (g : StageCtl) (i : Slot) (r : Stage) :
    (g.takeOut i r).slots = g.slots.set i { r with prove := none } := by simp [StageCtl.takeOut]

@[simp] theorem StageCtl.takeOut_order (g : StageCtl) (i : Slot) (r : Stage) :
    (g.takeOut i r).order = g.order.filter (fun j => j != i) := by simp [StageCtl.takeOut]

@[simp] theorem StageCtl.takeOut_fanProof (g : StageCtl) (i : Slot) (r : Stage) :
    (g.takeOut i r).fanProof = g.fanProof := by simp [StageCtl.takeOut]

/-- A slot after a stop of one of the slots: that slot in OFF_LOCK with its min-off if it ran, every
other slot as before. -/
theorem State.stopSlot_slot (s : State) (i j : Slot) :
    (s.stopSlot i).slot j =
      if j = i ∧ s.isRunning i = true then
        { s.slot i with
          state := .offLock, timer := some (ofSeconds (s.slotConfig i).minOff), prove := none }
      else s.slot j := by
  unfold State.stopSlot
  by_cases h : s.isRunning i = true
  · simp only [h, if_true, State.slot, StageCtl.takeOut_slots, PerSlot.get_set, and_true]
  · simp [h]

/-- The running order list after a stop. -/
theorem State.stopSlot_order (s : State) (i : Slot) :
    (s.stopSlot i).stage.order =
      if s.isRunning i = true then s.stage.order.filter (fun j => j != i) else s.stage.order := by
  unfold State.stopSlot
  split <;> simp_all

@[simp] theorem State.stopSlot_mode (s : State) (i : Slot) : (s.stopSlot i).mode = s.mode := by
  unfold State.stopSlot; split <;> rfl

@[simp] theorem State.stopSlot_adm (s : State) (i : Slot) : (s.stopSlot i).adm = s.adm := by
  unfold State.stopSlot; split <;> rfl

@[simp] theorem State.stopSlot_link (s : State) (i : Slot) : (s.stopSlot i).link = s.link := by
  unfold State.stopSlot; split <;> rfl

@[simp] theorem State.stopSlot_fault (s : State) (i : Slot) : (s.stopSlot i).fault = s.fault := by
  unfold State.stopSlot; split <;> rfl

/-- The freeze test touches no slot and not the running order list. -/
theorem State.testFreeze_slots (s : State) (n : Circuit) :
    (s.testFreeze n).stage.slots = s.stage.slots ∧ (s.testFreeze n).stage.order = s.stage.order := by
  cases n <;> (unfold State.testFreeze; repeat' split) <;> exact ⟨rfl, rfl⟩

/-- The slots after a start: the started one in PROVING, or in RUN_LOCK for a heat stage that finds
HEAT_PROVE active or unfitted, every other as before. -/
theorem State.startSlot_slot (s : State) (i j : Slot) :
    (s.startSlot i).slot j =
      if j = i then
        if sideOf i = .heating ∧ s.heatProven = true then
          { s.slot i with
            state := .runLock, timer := some (ofSeconds (s.slotConfig i).minRun), prove := none }
        else
          { s.slot i with
            state := .proving, timer := some (ofSeconds (s.slotConfig i).minRun),
            prove := some proveTime }
      else s.slot j := by
  cases i
  · simp only [State.startSlot, State.slot, (State.testFreeze_slots _ _).1, sideOf]
    exact (PerSlot.get_set ..).trans (by simp)
  · simp only [State.startSlot, State.slot, (State.testFreeze_slots _ _).1, sideOf]
    exact (PerSlot.get_set ..).trans (by simp)
  all_goals
    simp only [State.startSlot, State.testHeatProve, sideOf, true_and]
    by_cases h : s.heatProven = true
    · rw [if_pos (by exact h), if_pos h]
      simp only [State.slot, State.setSlot, PerSlot.get_set]
      split <;> simp_all
    · rw [if_neg (by exact h), if_neg h]
      simp only [State.slot, State.setSlot, PerSlot.get_set]

/-- A started stage is the newest of the running order list. -/
theorem State.startSlot_order (s : State) (i : Slot) :
    (s.startSlot i).stage.order = s.stage.order ++ [i] := by
  cases i <;>
    simp only [State.startSlot, (State.testFreeze_slots _ _).2, State.testHeatProve]
  all_goals (split <;> rfl)

/-! ## Selection -/

theorem mem_allSlots (i : Slot) : i ∈ allSlots := by cases i <;> decide

/-- A selection writes the presented request alone. -/
theorem State.select_eq (s : State) :
    s.select = { s with stage.presented := s.select.stage.presented } := rfl

/-- The presented request after a selection meets the conditions of R141; with none presented no slot
does. -/
theorem State.select_presented (s : State) :
    (∀ i, s.select.stage.presented = some i → s.selectable i = true) ∧
      (s.select.stage.presented = none → ∀ i, s.selectable i = false) := by
  have find : (∀ i, allSlots.find? s.selectable = some i → s.selectable i = true) ∧
      (allSlots.find? s.selectable = none → ∀ i, s.selectable i = false) := by
    refine ⟨fun i h => List.find?_some h, fun h i => ?_⟩
    simpa using List.find?_eq_none.1 h i (mem_allSlots i)
  unfold State.select
  dsimp only
  cases h : s.stage.presented.filter s.selectable with
  | none => exact find
  | some i =>
    refine ⟨fun j hj => ?_, fun hn => by cases hn⟩
    cases hj
    exact (Option.filter_eq_some_iff.1 h).2

/-! ## The transmit queue -/

/-- With no slot CURRENT, selection makes one CURRENT if one is QUEUED. -/
theorem Link.select_busy (l : Link) :
    l.select.busy =
      (l.busy || l.leaveSlot == .queued || l.shedSlot == .queued || l.stateSlot == .queued) := by
  obtain ⟨_, _, _, _, _, a, b, _, _, c⟩ := l
  cases a <;> cases b <;> cases c <;> rfl

/-- A running backoff count has the conditions of R35. -/
theorem Link.count_running (n : Nat) (l : Link) :
    (l.count n).backoff.isSome =
      (l.busy && l.idle && l.spacing.isNone && l.onWire.isNone && !l.cutOff) := by
  unfold Link.count
  split
  · rename_i h
    cases hb : l.backoff <;> simp_all
  · rename_i h
    simpa using h

/-! ## Carrying a property through an evaluation -/

/-- What an evaluation and the stops it brings do to State, one line for each of the shared
operations: a property that all of them keep is kept by everything made of them. -/
structure State.Keeps (P : State → Prop) : Prop where
  mode : ∀ (s : State) (m : ModeLogic), P s → P { s with mode := m }
  denials : ∀ s : State, P s → P { s with adm.denials := 0 }
  fan : ∀ (s : State) (on : Bool), P s → P (s.fanCommanded on)
  request : ∀ s : State, P s → P s.requestState
  stop : ∀ (s : State) (i : Slot), P s → P (s.stopSlot i)

theorem State.evaluateOnce_keeps {P : State → Prop} (k : State.Keeps P) (s : State)
    (cause : EvalCause) (h : P s) : P (s.evaluateOnce cause) := by
  have demand (s : State) (b : ModeLogic) (h : P s) : P (s.handDemand b) := by
    unfold State.handDemand; split
    · exact k.denials _ h
    · exact h
  have fan (s : State) (b : ModeLogic) (h : P s) : P (s.handFan b) := by
    unfold State.handFan; split
    · exact h
    · exact k.fan _ _ h
  have report (s : State) (b : ModeLogic) (h : P s) : P (s.handReport b) := by
    unfold State.handReport; split
    · exact h
    · exact k.request _ h
  exact report _ _ (fan _ _ (demand _ _ (k.mode s (s.formMode cause) h)))

theorem State.reportMove_keeps {P : State → Prop} (k : State.Keeps P) (s before : State)
    (h : P s) : P (s.reportMove before) := by
  have report : P (s.reportStages before) := by
    unfold State.reportStages
    dsimp only
    repeat' split
    all_goals first
      | exact h
      | exact k.mode _ _ h
      | exact k.mode _ _ (k.mode _ _ h)
      | exact k.request _ h
      | exact k.request _ (k.mode _ _ h)
      | exact k.request _ (k.mode _ _ (k.mode _ _ h))
  unfold State.reportMove
  split
  · exact h
  · exact State.evaluateOnce_keeps k _ _ report

/-- Transitions that keep a property keep it with all their reports. -/
theorem State.moveEach_keeps {P : State → Prop} (k : State.Keeps P) (move : State → Slot → State)
    (hm : ∀ (s : State) (i : Slot), P s → P (move s i)) (slots : List Slot) (s : State) (h : P s) :
    P (s.moveEach move slots) := by
  unfold State.moveEach
  induction slots generalizing s with
  | nil => exact h
  | cons i rest ih => exact ih _ (State.reportMove_keeps k _ _ (hm s i h))

theorem State.serveWanted_keeps {P : State → Prop} (k : State.Keeps P) (fuel : Nat) :
    ∀ (tested : ModeLogic) (s : State), P s → P (State.serveWanted fuel tested s) := by
  induction fuel with
  | zero => exact fun _ _ h => h
  | succ n ih =>
    intro tested s h
    unfold State.serveWanted
    split
    · exact h
    · exact ih _ _ (State.moveEach_keeps k _ k.stop _ s h)

/-- A property that a new mode, a reset denial count, a fan command, a STATE request and a stop keep is
kept by an evaluation. -/
theorem State.evaluate_keeps {P : State → Prop} (k : State.Keeps P) (s : State) (cause : EvalCause)
    (h : P s) : P (s.evaluate cause) :=
  State.serveWanted_keeps k 4 _ _ (State.evaluateOnce_keeps k s cause h)

/-- The same of the transitions of one event with all that their reports bring. -/
theorem State.moveAll_keeps {P : State → Prop} (k : State.Keeps P) (move : State → Slot → State)
    (hm : ∀ (s : State) (i : Slot), P s → P (move s i)) (slots : List Slot) (s : State) (h : P s) :
    P (s.moveAll move slots) :=
  State.serveWanted_keeps k 4 _ _ (State.moveEach_keeps k move hm slots s h)

/-! ## Bytes -/

@[simp] theorem be8_length (n : Nat) : (be8 n).length = 1 := rfl
@[simp] theorem be16_length (n : Nat) : (be16 n).length = 2 := rfl
@[simp] theorem be24_length (v : BitVec 24) : (be24 v).length = 3 := rfl
@[simp] theorem be32_length (v : BitVec 32) : (be32 v).length = 4 := rfl
@[simp] theorem beTemp_length (t : Option Int) : (beTemp t).length = 2 := by cases t <;> rfl
@[simp] theorem beBool_length (b : Bool) : (beBool b).length = 1 := by cases b <;> rfl

/-- A number below 65,536 sent in two bytes reads back. -/
theorem wordAt_be16 (n : Nat) (h : n < 65536) (rest : List Byte) : wordAt (be16 n ++ rest) 0 = n := by
  simp [wordAt, byteAt, be16]
  omega

end Sys2Proof.Machine
end

