-- ==== Sys2Proof/Laws/Station.lean ====
section
/-! SUPPORT. What an event that reaches station control can write: entries into station states, the
end of isolation, and the delivery of an input event. -/

namespace Sys2Proof.Machine

/-- Beside the plant's own blocks, at most station control and the Link Controller differ. -/
def State.stationFrame (s t : State) : Prop :=
  t = { s with
    station := t.station, link := t.link, adm := t.adm, mode := t.mode, stage := t.stage,
    fault := t.fault, pins := t.pins }

@[simp] theorem State.stationFrame_refl (s : State) : s.stationFrame s := rfl

theorem State.stationFrame_trans {a b c : State} (h : a.stationFrame b) (k : b.stationFrame c) :
    a.stationFrame c := by
  unfold State.stationFrame at *
  rw [k, h]

/-- A state that differs in station control, the Link Controller or the Admission Unit is in the frame. -/
theorem State.stationFrame_own (s : State) (station : StationCtl) (link : Link) (adm : Admission) :
    s.stationFrame { s with station := station, link := link, adm := adm } := rfl

theorem State.stageFrame.station {s t : State} (h : s.stageFrame t) : s.stationFrame t := by
  unfold State.stationFrame
  rw [h.1]

theorem State.setStation_frame (s : State) (new : StationState) (cause : IsolationCause) :
    s.stationFrame (s.setStation new cause) := by
  unfold State.setStation
  dsimp only
  split <;> rfl

theorem State.admissionIdle_frame (s : State) : s.stationFrame s.admissionIdle :=
  State.stationFrame_trans (State.stationFrame_own s s.station s.link _)
    (State.moveEach_frame _ State.unclaimSlot_frame _ _).station

theorem State.enterWorking_frame (s : State) (new : StationState) :
    s.stationFrame (s.enterWorking new) :=
  State.stationFrame_trans (State.stationFrame_trans (State.stationFrame_trans
    (State.setStation_frame s new .none) (State.admissionIdle_frame _))
    (State.requestState_frame _ false).station) (State.entered_frame _ s).station

theorem State.enterShutdown_frame (s : State) : s.stationFrame s.enterShutdown :=
  State.stationFrame_trans (State.stationFrame_trans (State.stationFrame_trans
    (State.stationFrame_trans (State.setStation_frame s .shutdown .none)
      (State.stopAll_frame _).station) (State.admissionIdle_frame _))
    (State.requestState_frame _ false).station) (State.entered_frame _ s).station

theorem State.enterIsolated_frame (s : State) (cause : IsolationCause) :
    s.stationFrame (s.enterIsolated cause) := by
  have h : s.stationFrame
      ((s.setStation .isolated cause).stopToCap.admissionIdle.requestState.entered s) :=
    State.stationFrame_trans (State.stationFrame_trans (State.stationFrame_trans
      (State.stationFrame_trans (State.setStation_frame s .isolated cause)
        (State.stopToCap_frame _).station) (State.admissionIdle_frame _))
      (State.requestState_frame _ false).station) (State.entered_frame _ s).station
  cases cause
  · exact h
  · exact State.stationFrame_trans h (State.raise_frame _ .linkSilent).station
  · exact h
  · exact h

theorem State.leaveLink_frame (s : State) :
    s.stationFrame (State.serveLink { s with link := s.link.leave }) := rfl

theorem State.enterLeft_frame (s : State) : s.stationFrame s.enterLeft := by
  unfold State.enterLeft
  exact State.stationFrame_trans (State.stationFrame_trans (State.stationFrame_trans
    (State.stationFrame_trans (State.setStation_frame s .left .none) (State.stopAll_frame _).station)
    (State.admissionIdle_frame _)) (State.leaveLink_frame _)) (State.entered_frame _ s).station

theorem State.returnToSharing_frame (s : State) (holds : Bool) :
    s.stationFrame (s.returnToSharing holds) := by
  unfold State.returnToSharing
  split
  · exact State.enterWorking_frame s .sharing
  · exact State.stationFrame_refl s

theorem State.hearOther_frame (s : State) : s.stationFrame s.hearOther :=
  State.stationFrame_trans (State.stationFrame_own s { s.station with silence := some silenceTime }
    s.link s.adm) (State.returnToSharing_frame _ _)

theorem State.leaveShutdown_frame (s : State) : s.stationFrame s.leaveShutdown := by
  unfold State.leaveShutdown
  repeat' split
  · exact State.enterIsolated_frame ..
  · exact State.enterWorking_frame ..
  · exact State.enterIsolated_frame ..
  · exact State.enterIsolated_frame ..
  · exact State.enterWorking_frame ..

theorem State.smokeActive_frame (s : State) : s.stationFrame s.smokeActive := by
  unfold State.smokeActive
  split
  · exact State.enterShutdown_frame s
  · exact State.stationFrame_refl s

theorem State.joinDecision_frame (s : State) : s.stationFrame s.joinDecision := by
  unfold State.joinDecision
  repeat' split
  · exact State.enterShutdown_frame s
  · exact State.enterWorking_frame ..
  · exact State.enterIsolated_frame ..
  · exact State.enterWorking_frame ..
  · exact State.enterIsolated_frame ..

end Sys2Proof.Machine
end

