-- ==== Sys2Proof/WellFormed.lean ====
section
/-! DEFINITION. Which operands a command may carry: the shapes the events have on the part's lines.
A command whose operands fail its check stands for no event of the part. `exec` is total all the
same: it gives such a command no effect, or the answer the request rules give it. -/

namespace Sys2Proof

/-- A roof link frame as the receiver completes it: 0xA7, a legal length L, L + 4 characters (R25). -/
def linkFrameShape (lengths : List Nat) (f : List Byte) : Bool :=
  match f with
  | a :: l :: _ => a == 0xA7 && lengths.contains l.toNat && f.length == l.toNat + 4
  | _ => false

/-- A service frame as the receiver completes it: 0x5A, a length above 0, L + 4 characters (R198). -/
def serviceFrameShape (f : List Byte) : Bool :=
  match f with
  | a :: l :: _ => a == 0x5A && l != 0 && f.length == l.toNat + 4
  | _ => false

/-- A roof link station number (R47). -/
def stationNumber (n : Nat) : Bool := 1 ≤ n && n ≤ 48

/-- What a receive abort names really is one: a start that starts no frame, an illegal length (R25). -/
def ReceiveAbort.wf : ReceiveAbort → Bool
  | .badStart ch fe => fe || ch != 0xA7
  | .badLength l => !([6, 9, 22, 28].contains l.toNat)
  | .framingError => true
  | .gap => true

/-- The check of each command's operands. -/
def Instr.wf : Instr → Bool
  | .configure record => record.length == 70
  | .unknownRequest _ payload => payload.length ≤ 254
  | .serviceFrameBadCrc f => serviceFrameShape f
  | .receiveAbort c => c.wf
  | .frameRejected f => linkFrameShape [6, 9, 22, 28] f
  | .stateReceived f => linkFrameShape [22, 28] f
  | .shedReceived f => linkFrameShape [9] f
  | .leaveReceived f => linkFrameShape [6] f
  | .ownEcho f => linkFrameShape [6, 9, 22, 28] f
  | .duplicateDetected f => linkFrameShape [6, 9, 22, 28] f
  | .freshnessExpiry n => stationNumber n
  | .claimHoldExpiry n => stationNumber n
  | .powerUp | .supplyOutOfRange | .restart | .secondsTick | .start | .readStatus
  | .readEntry _ | .readFaults | .clear _ | .unlock _ | .serviceRestart | .leave | .rollcall
  | .linkTest _ _ | .requestDiscardedBusy | .serviceFrameAbort _ | .serviceResponseEnd
  | .linkIdle | .backoffAbandoned | .attemptBegin | .attemptFailed _ | .frameSent
  | .spacingExpiry | .reportTimerExpiry | .joinExpiry | .silenceExpiry | .settleExpiry
  | .holdoffExpiry | .shedWaitExpiry | .shedSpacingExpiry | .changeoverExpiry | .offDelayExpiry
  | .fullOpenExpiry | .damperTimerExpiry | .pwmPeriodStart | .fanProofExpiry | .proveExpiry _
  | .minRunExpiry _ | .minOffExpiry _ | .tripDelayExpiry _ | .interStageExpiry | .freezeExpiry _
  | .scanTimerExpiry | .conversionComplete _ | .inputSample _ _ | .frameStartCharacter
  | .charactersAfterFrame | .serviceStartCharacter | .serviceLengthZero
  | .cutOffFrameRelease => true

end Sys2Proof
end

