-- ==== Sys2Proof/Tests/Slice0.lean ====
section
/-! SUPPORT. The model's own tests: the refusal of ill-formed operands, the manual's worked figures,
one step of a command on a small state, and for each statement with hypotheses a state and operands
that meet them. Expected figures come from the manual's worked sequences and tables; the CRC bytes of
the frames were computed apart from the model by the rule of R29. -/

section
set_option Elab.async false

namespace Sys2Proof.Machine

/-! ## Small states -/

/-- The record of §11.7 and §6.11: station 12, ceiling 1200, both circuits of increment 96. -/
def recA : List Byte :=
  [12, 40, 0x04, 0xB0, 0, 96, 0, 37] ++
  [1, 0, 96, 0, 180, 0x01, 0x2C] ++ [1, 0, 96, 0, 180, 0x01, 0x2C] ++
  [1, 0, 150, 0, 120, 0, 240] ++ [1, 0, 150, 0, 120, 0, 240] ++
  [11, 13, 21, 4, 0, 0] ++ [0, 240, 0, 210, 30, 40, 5, 1, 0, 220, 0, 150, 120, 0, 130, 0x3F] ++
  [9, 9, 9, 9, 9, 9, 9, 9, 9] ++ [0x7F, 0xFF, 0xFF]

/-- §11.7: the keying error, a heat setpoint of 230. -/
def badHeat : List Byte := recA.set 45 230

def cfgA : ConfigRecord := readRecord recA

/-- In CONFIG with the record held. -/
def configured : State := { State.reset with config := some cfgA, table.ceiling := 1200 }

/-- A VALID channel at a temperature. -/
def validAt (v : Int) : Sensor := { Sensor.start with state := .valid, acc := 8 * v, value := some v }

/-- Station 12 in SHARING, occupied, its zone at 25.7 °C (R113's example: demand level 3). -/
def sharing : State :=
  { State.reset with
    config := some cfgA
    station := { StationCtl.start with state := .sharing, silence := some 6000 }
    link := { Link.start with rxOn := true, txOn := true, rx := .hunt, report := some 2000 }
    table := RoofTable.joining cfgA
    mode :=
      { ModeLogic.start with
        zoneTemp := some 257, zoneSource := .own, side := .cooling, level := 3, cool1 := true,
        cool2 := true, wantedCool := 2, mode := .vent, fan := true, damper := 150,
        damperTarget := 150, damperTimer := some 1000 }
    stage :=
      { StageCtl.start with slots := PerSlot.all { Stage.start with state := .ready }
                            fanProof := .proven }
    scan := { Scanner.start with sensors := PerChannel.all (validAt 257) }
    inputs :=
      { PerInput.all { Input.start with
          accepted := .inactive, candidate := some false, timer := some 20 } with
        occ := { Input.start with accepted := .active, candidate := some true, timer := some 20 } } }

/-- The same station in JOINING. -/
def joining : State := { sharing with station.state := .joining, station.join := some 4000 }

def State.accept (s : State) (r : InputRole) (a : Accepted) : State :=
  s.setInput r { s.input r with accepted := a }

def State.streakOf (s : State) (r : InputRole) (n : Nat) : State :=
  s.setInput r { s.input r with streak := n }

def State.zone (s : State) (v : Int) : State := s.setSensor .zone (validAt v)

def State.inState (s : State) (st : StationState) : State :=
  { s with station.state := st, station.cause := if st = .isolated then .silent else .none }

def State.slotIn (s : State) (i : Slot) (st : StageState) : State :=
  s.setSlot i { s.slot i with state := st, timer := some 180000 }

def State.proving (s : State) (i : Slot) : State :=
  { s.setSlot i { Stage.start with state := .proving, timer := some 180000, prove := some 30000 }
    with stage.order := [i] }

def State.scanning (s : State) (c : Conversion) : State := { s with scan.scan := [c] }

/-- A STATE whose fields stand at their limits, from a part with another serial. -/
def report48 : StateFrame :=
  { roll := true
    report :=
      { identity := 0x1482C41B, stationState := 6, unitMode := 4, level := 255, ownSensor := true,
        spaceTemp := some (-32767), staged := 65535, fan := 65535, cap := 65535, ceiling := 0,
        offer := 65535 }
    claim := some
      { serial := 255, slotCode := 4, increment := 65535, level := 255, intended := 4 } }

def stateOf (n : Nat) : Frame := ⟨n, 0x1482C41B, .state report48⟩

def leaveOf (n : Nat) (id : BitVec 32) : Frame := ⟨n, id, .leave⟩

def shed21 : Frame := ⟨21, 0x1482C41B, .shed ⟨6, 96⟩⟩

/-- R28's example of an identity word. -/
def ownId : BitVec 32 := 0x1482C41A

def heard : Entry :=
  { Entry.blank with
    state := .fresh, report := some report48.report, claim := report48.claim
    freshness := some 5000, claimHold := some 5000 }

def State.hears (s : State) (n : Nat) : State := s.setEntry n heard

def locked : State := sharing.setSlot .h2 ⟨.locked, none, none, [10500, 11431, 12363]⟩

/-- A STATE current and counting its backoff. -/
def sending : State :=
  { sharing with
    link := { sharing.link with
      stateSlot := .current, attempts := 1, idle := true, backoff := some 11 } }

def wire : WireFrame := ⟨[0xA7], false⟩

/-- The same STATE on the wire. -/
def onTheWire : State :=
  { sending with
    link := { sending.link with
      idle := false, backoff := none, onWire := some wire, rx := .discard } }

/-- C1 in RUN_FREE. -/
def runningC1 : State :=
  { sharing.setSlot .c1 { Stage.start with state := .runFree } with
    stage.order := [.c1], mode.mode := .cool }

def claimC1 : OpenClaim :=
  { serial := 7, slot := .c1, increment := 96, level := 3, intended := .cool }

/-- A claim for C1 in its settle. -/
def claiming : State :=
  { sharing.setSlot .c1 { Stage.start with state := .claimed } with
    adm :=
      { Admission.start with
        state := .settling, claim := some claimC1, lastSerial := 7, settle := some 1500 } }

/-- A holdoff in progress with C1 wanted. -/
def waiting : State :=
  { sharing with adm := { Admission.start with state := .holdoff, holdoff := some 4000 } }

/-- §6.11 at 203.8: ECON with the damper fully open. -/
def economizing : State :=
  { ((sharing.setSensor .outdoor (validAt 200)).setSensor .ret (validAt 246)).setSensor .supply
      (validAt 208) with
    mode :=
      { sharing.mode with
        mode := .econ, cool2 := false, wantedCool := 0, econAvailable := true, damper := 1000
        damperTarget := 1000, fullOpen := .running 120000 } }

/-- An entry of a marked neighbour that cools at level 6. -/
def coolEntry : Entry :=
  { heard with
    mark := true
    report := some { report48.report with unitMode := 3, level := 6, ceiling := 1200 } }

/-- C1 running while the station yields: neighbour 13 heats. -/
def yielding : State :=
  { runningC1 with mode := { runningC1.mode with mode := .vent, yieldHold := some .cooling } }

/-- Air in which the economizer is available, the mode VENT. -/
def fresh : State := { economizing.zone 245 with mode := sharing.mode }

/-- ECON with the zone temperature lost, and no start taken. -/
def leavingEcon : State :=
  { economizing.setSensor .zone { Sensor.start with state := .invalid } with adm.state := .holdoff }

/-- Unoccupied, with no zone temperature and the fan waiting to go off. -/
def unoccupied : State :=
  { (sharing.accept .occ .inactive).setSensor .zone { Sensor.start with state := .invalid } with
    mode := { sharing.mode with offDelay := some 60000, damper := 150 } }

theorem cfgA_valid (r : ConfigRecord) (h : some cfgA = some r) :
    ∃ b : List Byte, b.length = 70 ∧ firstFailing b = none ∧ r = readRecord b :=
  ⟨recA, by decide, by decide +kernel, by cases h; rfl⟩

/-- R65: no entry is heard right after entry to JOINING. -/
theorem joined_noneHeard (s : State) (h : s.table = RoofTable.joining cfgA) (n : Nat) :
    (s.entry n).state.heard = false := by
  unfold State.entry
  split
  · simp only [h, RoofTable.joining, Vector.getElem_ofFn, Entry.joining]
    split <;> decide
  · decide

theorem joining_noFresh (n : Nat) :
    (State.entry { joining with link.drops := 2 } n).state ≠ .fresh :=
  fun h => by
    simpa [h, EntryState.heard] using joined_noneHeard { joining with link.drops := 2 } rfl n

/-! ## Ill-formed operands -/

theorem test_wf_configure : (Instr.configure (recA.drop 1)).wf = false := by decide
theorem test_wf_unknownRequest : (Instr.unknownRequest 0 (List.replicate 255 0)).wf = false := by
  decide +kernel
theorem test_wf_serviceFrame : (Instr.serviceFrameBadCrc [0x5A, 0, 0, 0]).wf = false := by decide
theorem test_wf_badStart : (Instr.receiveAbort (.badStart 0xA7 false)).wf = false := by decide
theorem test_wf_badLength : (Instr.receiveAbort (.badLength 28)).wf = false := by decide
theorem test_wf_frameRejected : (Instr.frameRejected [0xA7, 7]).wf = false := by decide
theorem test_wf_stateReceived : (Instr.stateReceived ((leaveOf 1 0).encode 0)).wf = false := by
  decide +kernel
theorem test_wf_shedReceived : (Instr.shedReceived ((leaveOf 1 0).encode 0)).wf = false := by
  decide +kernel
theorem test_wf_leaveReceived : (Instr.leaveReceived (shed21.encode 0)).wf = false := by
  decide +kernel
theorem test_wf_ownEcho : (Instr.ownEcho []).wf = false := by decide
theorem test_wf_duplicate : (Instr.duplicateDetected [0xA5, 6]).wf = false := by decide
theorem test_wf_freshness :
    (Instr.freshnessExpiry 0).wf = false ∧ (Instr.freshnessExpiry 49).wf = false := by decide
theorem test_wf_claimHold :
    (Instr.claimHoldExpiry 0).wf = false ∧ (Instr.claimHoldExpiry 49).wf = false := by decide

/-! ## The manual's figures -/

/-- R29: the check of an implementation. -/
theorem test_crc : crc16 [0x31, 0x32, 0x33, 0x34, 0x35, 0x36, 0x37, 0x38, 0x39] = 0x29B1 := by
  decide +kernel

/-- R28: the example of an identity word. -/
theorem test_identity : State.identity { State.reset with serial := 0x2C41A } = 0x1482C41A := by
  decide

/-- §8.9: codes across the range, linearised and clamped. -/
theorem test_curve :
    [41, 271, 272, 1000, 2064, 2200, 2560, 3000, 3400, 3947, 3948, 4054].map
        (fun c => (linearise c, clampTemp (linearise c))) =
      [(1422, 1000), (1001, 1000), (1000, 1000), (529, 529), (247, 247), (217, 217), (139, 139),
        (39, 39), (-71, -71), (-400, -400), (-401, -400), (-544, -400)] := by decide +kernel

/-- §8.9: the bad samples at the ends. -/
theorem test_goodCodes : [40, 41, 4054, 4055].map goodCode = [false, true, true, false] := by decide

/-- §8.10: a step of the supply air, and two samples below freezing. -/
theorem test_filter :
    (((validAt 217).filterIn 225).filterIn 225).acc = 1751 ∧
      ((((validAt 217).filterIn 225).filterIn 225).filterIn 225).value = some 220 ∧
      ((validAt (-47)).filterIn (-60)).value = some (-49) ∧
      (((validAt (-47)).filterIn (-60)).filterIn (-60)).value = some (-50) := by decide +kernel

/-- §6.3: the neighbour averages. -/
theorem test_neighbourAverage :
    neighbourAverage [241, 244, 246] = some 244 ∧ neighbourAverage [-5, -4] = some (-4) ∧
      neighbourAverage [241, 244] = some 243 := by decide +kernel

/-- R113: levels at the thresholds. -/
theorem test_levels :
    [4, 5, 17, 34, 35, 39, 40].map (fun e => levelOf e 40) = [0, 1, 3, 6, 6, 6, 7] ∧
      [15, 19, 20].map (fun e => levelOf e 20) = [3, 3, 7] := by decide +kernel

/-- §2.9: station 12's backoff slots at its eight attempts. -/
theorem test_backoff :
    [1, 2, 3, 4, 5, 6, 7, 8].map (backoffSlots 12) = [11, 24, 37, 2, 15, 28, 41, 6] := by decide

/-- §4.11, §4.12: holdoffs. -/
theorem test_holdoff :
    holdoffTime 3 8 = 11750 ∧ holdoffTime 4 8 = 9750 ∧ holdoffTime 6 12 = 4750 := by decide

/-- §4.11, R71: claim levels. -/
theorem test_claimLevel :
    claimLevel 3 1 = 3 ∧ claimLevel 3 2 = 4 ∧ claimLevel 6 9 = 6 ∧ claimLevel 7 0 = 7 := by decide

/-- R157: histories at and beyond the limit, and a fourth trip. -/
theorem test_lockout :
    locksOut (pushTrip [1000, 2000] 4700) = false ∧ locksOut (pushTrip [1000, 2000] 4600) = true ∧
      pushTrip [1000, 2000, 4700] 5500 = [2000, 4700, 5500] ∧
      locksOut (pushTrip [1000, 2000, 4700] 5500) = true := by decide

/-- R161: the power-return delays of stations 1, 12 and 48. -/
theorem test_powerReturn :
    [1, 12, 48].map powerReturnDelay = [20000, 53000, 161000] := by decide

/-- §6.11: the economizer law at 23.8, 20.8 and 16.0 °C. -/
theorem test_damperLaw : [238, 208, 160].map (damperLaw cfgA) = [1000, 1000, 510] := by
  decide +kernel

/-- §5.6, §5.7: shedding prefixes. -/
theorem test_shedPrefix :
    shedPrefix 76 [⟨1, 96, 3⟩, ⟨2, 180, 5⟩] = [⟨1, 96, 3⟩] ∧
      shedPrefix 120 [⟨1, 96, 3⟩, ⟨2, 180, 5⟩, ⟨4, 96, 12⟩] = [⟨1, 96, 3⟩, ⟨2, 180, 5⟩] ∧
      shedPrefix 120 [⟨1, 96, 3⟩, ⟨4, 96, 12⟩] = [⟨1, 96, 3⟩, ⟨4, 96, 12⟩] := by decide

/-- R99: level ascending, offer descending, station number descending. -/
theorem test_candidateOrder :
    [(⟨2, 96, 7⟩ : Candidate), ⟨1, 96, 9⟩, ⟨1, 180, 4⟩, ⟨1, 96, 30⟩].foldr insertCandidate [] =
      [⟨1, 180, 4⟩, ⟨1, 96, 30⟩, ⟨1, 96, 9⟩, ⟨2, 96, 7⟩] := by decide

/-- §11.7: the record passes, and with the keying error fails at field 12. -/
theorem test_record : firstFailing recA = none ∧ firstFailing badHeat = some 12 := by decide +kernel

/-- R205: fields of the record read. -/
theorem test_recordFields :
    cfgA.station = 12 ∧ cfgA.ceiling = 1200 ∧ (cfgA.slots.get .c2).minOff = 300 ∧
      cfgA.neighbours = [11, 13, 21, 4, 0, 0] ∧ cfgA.satTarget = 130 ∧
      (cfgA.inputs.get .filter).filter = .f20 ∧ cfgA.alertMask = 0x7FFFFF := by decide +kernel

/-! ## Frames, their characters written out from R26 -/

theorem test_parseLeave :
    parseFrame [0xA7, 0x06, 0x33, 0x15, 0x14, 0x82, 0xC4, 0x1B, 0x6B, 0x2C] =
      some ⟨21, 0x1482C41B, .leave⟩ := by decide +kernel

theorem test_parseShed :
    parseFrame [0xA7, 0x09, 0x32, 0x15, 0x14, 0x82, 0xC4, 0x1B, 0x06, 0x00, 0x4C, 0xAE, 0x6B] =
      some ⟨21, 0x1482C41B, .shed ⟨6, 76⟩⟩ := by decide +kernel

/-- Station 13 in SHARING, HEAT, level 6, staged 96, fan 37, cap 96, ceiling 1100, zone 24.4 °C, with
ROLL and OWN_SENSOR. -/
def state13 : List Byte :=
  [0xA7, 0x16, 0x31, 0x0D, 0x14, 0x82, 0xC4, 0x1B, 0x05, 0x02, 0x04, 0x06, 0x00, 0x60, 0x00, 0x25,
    0x00, 0x60, 0x04, 0x4C, 0x00, 0x00, 0x00, 0xF4, 0x11, 0x77]

theorem test_parseState :
    parseFrame state13 = some ⟨13, 0x1482C41B, .state
      { roll := true
        report :=
          { identity := 0x1482C41B, stationState := 2, unitMode := 4, level := 6,
            ownSensor := true, spaceTemp := some 244, staged := 96, fan := 37, cap := 96,
            ceiling := 1100, offer := 0 }
        claim := none }⟩ := by decide +kernel

/-- The same station with a claim part and no zone temperature. -/
theorem test_parseClaim :
    (parseFrame
      [0xA7, 0x1C, 0x31, 0x0D, 0x14, 0x82, 0xC4, 0x1B, 0x02, 0x02, 0x01, 0x03, 0x00, 0x00, 0x00,
        0x25, 0x00, 0x60, 0x04, 0xB0, 0x00, 0x00, 0x80, 0x00, 0x2A, 0x02, 0x00, 0x60, 0x03, 0x03,
        0xD8, 0xE0]).map (fun f => match f.body with
          | .state g => (g.claim, g.report.spaceTemp)
          | _ => (none, none)) =
      some (some { serial := 42, slotCode := 2, increment := 96, level := 3, intended := 3 },
        none) := by decide +kernel

/-- A LEAVE of station 12 as it is sent, and R200's lengths of responses. -/
theorem test_encodeLeave :
    (leaveOf 12 ownId).encode 0 =
      [0xA7, 0x06, 0x33, 0x0C, 0x14, 0x82, 0xC4, 0x1A, 0xD7, 0x2B] := by decide +kernel

theorem test_responses :
    responseFrame 0x01 .badRecord [12] = [0xA5, 0x03, 0x01, 0x02, 0x0C, 0x8F, 0xC2] ∧
      responseFrame 0x21 .ok [] = [0xA5, 0x02, 0x21, 0x00, 0x97, 0x2B] := by decide +kernel

/-- R199: requests read from their characters: START, READ_ENTRY 12, LINK_TEST with mask 0x8001 and count
16, CLEAR of FILTER and ZONE_SENSOR, and a CLEAR of a wrong length. -/
theorem test_requests :
    readRequest [0x5A, 0x01, 0x02, 0x0E, 0x7C] = some .start ∧
      readRequest [0x5A, 0x02, 0x11, 0x0C, 0x53, 0x32] = some (.readEntry 12) ∧
      readRequest [0x5A, 0x04, 0x33, 0x80, 0x01, 0x10, 0x35, 0x65] = some (.linkTest 0x8001 16) ∧
      readRequest [0x5A, 0x04, 0x20, 0x01, 0x00, 0x02, 0xB8, 0x36] = some (.clear 0x10002) ∧
      readRequest [0x5A, 0x02, 0x20, 0x01, 0xB4, 0x3B] = some (.unknownRequest 0x20 [1]) := by
  decide +kernel

theorem test_responseLengths :
    (responseFrame 0x10 .ok sharing.statusRecord).length = 73 ∧
      (responseFrame 0x11 .ok (sharing.entryRecord 12)).length = 34 ∧
      (responseFrame 0x12 .ok sharing.fault.bytes).length = 28 := by decide +kernel

/-! ## One step of a command -/

/-- The outcome is a next state that has a property. -/
def ok (o : Host.Outcome State Fault Refusal) (p : State → Bool) : Bool :=
  match o with
  | .next s => p s
  | _ => false

theorem test_queue :
    ok (step { sharing with pending := [.secondsTick, .leave] })
      (fun t => t.seconds == 1 && t.pending == [.leave]) = true := by decide +kernel

/-- No row of the table has bits, so no word spells a command. -/
theorem test_noWord : decodeTableWord 8 0x31 = none ∧ sharing.withFetchWord 8 0x31 = sharing := by
  decide +kernel

/-- §11.7: the record taken at 400.0. -/
theorem test_configure :
    ok (exec (.configure recA) State.reset)
      (fun t => t.config == some cfgA && t.table.ceiling == 1200 &&
        t.svc.buffer == .held (responseFrame 0x01 .ok []) false) = true := by decide +kernel

/-- §11.7: the keying error answered, and no record held. -/
theorem test_configureBad :
    ok (exec (.configure badHeat) State.reset)
      (fun t => t.config == none &&
        t.svc.buffer == .held [0xA5, 0x03, 0x01, 0x02, 0x0C, 0x8F, 0xC2] false) = true := by
  decide +kernel

/-- §11.7: START moves the station to JOINING, its stages to a power-return delay of 53 s. -/
theorem test_start :
    ok (exec .start configured)
      (fun t => t.station.state == .joining && t.slot .c1 == ⟨.offLock, some 53000, none, []⟩ &&
        t.link.stateSlot == .current && t.link.roll) = true := by decide +kernel

theorem test_restart :
    ok (exec .restart locked)
      (fun t => t.station.state == .joining && t.stageState .h2 == .locked &&
        t.stageState .c1 == .offLock) = true := by decide +kernel

theorem test_leave :
    ok (exec .leave runningC1)
      (fun t => t.station.state == .left && t.stageState .c1 == .offLock && !t.mode.fan &&
        t.link.leaveSlot == .current && !t.pins.stages.c1) = true := by decide +kernel

/-- R158, §7.11: UNLOCK C1 with 300 s of min-off; here H2 with its 240 s. -/
theorem test_unlock :
    ok (exec (.unlock 4) locked)
      (fun t => t.slot .h2 == ⟨.offLock, some 240000, none, []⟩) = true := by decide +kernel

/-- §10.7 at 9100: a CLEAR naming FILTER with the filter still dirty captures it afresh, LP1 kept. -/
theorem test_clear :
    ok (exec (.clear 0x10000)
        { ((sharing.accept .filter .active).raise .filter).raise .lp1 with seconds := 9100 })
      (fun t => t.fault.record.map (fun r => (r.category, r.seconds)) == some (.filter, 9100) &&
        t.fault.later == 0x200 && t.fault.uncaptured && !t.pins.alert) = true := by decide +kernel

/-- R195: a CLEAR that names no category changes nothing. -/
theorem test_clearNothing :
    ok (exec (.clear 0) { sharing with fault.uncaptured := true })
      (fun t => t.fault == { FaultCapture.start with uncaptured := true }) = true := by decide +kernel

/-- R45: the range of the count. -/
theorem test_linkTest :
    ok (exec (.linkTest 1 16) sharing) (fun t => t.link.testCount == 16) = true ∧
      ok (exec (.linkTest 1 17) sharing) (fun t => t.link.testCount == 0) = true := by
  decide +kernel

/-- R45: a frame sent under a link test carries the CRC combined with the mask. -/
theorem test_attempt :
    ok (exec .attemptBegin
        { sending with
          link := { sending.link with
            stateSlot := .empty, leaveSlot := .current, testMask := 0xFFFF, testCount := 1 } })
      (fun t => (t.link.onWire.map WireFrame.bytes) ==
          some [0xA7, 0x06, 0x33, 0x0C, 0x14, 0x82, 0xC4, 0x1A, 0x28, 0xD4] &&
        t.pins.lnkDe) = true := by decide +kernel

/-- §2.9 at 18.10: a failed first attempt. -/
theorem test_attemptFailed :
    ok (exec (.attemptFailed .mismatch) onTheWire)
      (fun t => t.link.attempts == 2 && t.link.spacing == some 50 && !t.pins.lnkDe) = true := by
  decide +kernel

/-- R17: the third drop isolates and raises LINK_TX. -/
theorem test_thirdDrop :
    ok (exec (.attemptFailed .missingCharacter)
        { onTheWire with link := { onTheWire.link with attempts := 8, drops := 2 } })
      (fun t => t.station.state == .isolated && t.station.cause == .transmit &&
        (t.fault.record.map FaultRecord.category) == some .linkTx) = true := by decide +kernel

/-- §2.9 at 82.69: a STATE sent. -/
theorem test_frameSent :
    ok (exec .frameSent { onTheWire with adm := waiting.adm })
      (fun t => t.link.stateSlot == .empty && t.link.drops == 0 && t.link.report == some 2000 &&
        t.link.spacing == some 50) = true := by decide +kernel

/-- R51, R61, R62: a STATE with a lower ceiling, and ROLL answered. -/
theorem test_stateReceived :
    ok (exec (.stateReceived state13) sharing)
      (fun t => (t.entry 13).state == .fresh && (t.entry 13).mark && t.table.ceiling == 1100 &&
        (t.fault.record.map FaultRecord.category) == some .ceilingMismatch &&
        t.link.stateSlot == .current && t.link.rx == .discard) = true := by decide +kernel

/-- §5.6 at station 3's place: SELF in the prefix stops the offered stage. -/
theorem test_shed :
    ok (exec (.shedReceived
        [0xA7, 0x09, 0x32, 0x15, 0x14, 0x82, 0xC4, 0x1B, 0x06, 0x00, 0x4C, 0xAE, 0x6B]) runningC1)
      (fun t => t.stageState .c1 == .offLock && t.stagedLoad == 0) = true := by decide +kernel

/-- R19, R104: a SHED that ends isolation is not acted on: C1, offered by the SHARING station, runs on. -/
theorem test_shedEndsIsolation :
    ok (exec (.shedReceived
        [0xA7, 0x09, 0x32, 0x15, 0x14, 0x82, 0xC4, 0x1B, 0x06, 0x00, 0x4C, 0xAE, 0x6B])
        (runningC1.inState .isolated))
      (fun t => t.station.state == .sharing && t.stageState .c1 == .runFree) = true := by
  decide +kernel

/-- R18: another board with the own number. -/
theorem test_duplicate :
    ok (exec (.duplicateDetected [0xA7, 0x06, 0x33, 0x0C, 0x14, 0x82, 0xC4, 0x1B, 0xC7, 0x0A])
        sharing)
      (fun t => t.station.state == .isolated && t.station.cause == .duplicate) = true := by
  decide +kernel

/-- R42: the own echo changes no more than the receiver. -/
theorem test_ownEcho :
    ok (exec (.ownEcho [0xA7, 0x06, 0x33, 0x0C, 0x14, 0x82, 0xC4, 0x1A, 0xD7, 0x2B]) sharing)
      (fun t => t.station == sharing.station && t.link.rx == .discard) = true := by decide +kernel

/-- §4.11: station 8's kind of opening, with 318 of headroom, and the grant that follows. -/
theorem test_claim :
    ok (exec .holdoffExpiry { waiting with table.ceiling := 355 })
      (fun t => t.adm.headroom == 318 && t.adm.state == .settling && t.stageState .c1 == .claimed &&
        (t.adm.claim.map OpenClaim.intended) == some .cool) = true := by decide +kernel

theorem test_grant :
    ok (exec .settleExpiry claiming)
      (fun t => t.slot .c1 == ⟨.proving, some 180000, some 30000, []⟩ && t.mode.mode == .cool &&
        t.stage.interStage == some 60000 && t.pins.stages.c1 && t.stagedLoad == 96) = true := by
  decide +kernel

/-- §4.12 at 0.0: a shed call of 76 at level 6. -/
theorem test_shedCall :
    ok (exec .holdoffExpiry { waiting with table.ceiling := 57, mode.level := 6 })
      (fun t => t.adm.state == .shedWait && t.link.shedCall == ⟨6, 76⟩ &&
        t.adm.shedSpacing == some 60000) = true := by decide +kernel

/-- §6.11 at 203.8: the full-open expiry moves the mode to COOL with one stage wanted. -/
theorem test_fullOpen :
    ok (exec .fullOpenExpiry (economizing.zone 252))
      (fun t => t.mode.mode == .cool && t.mode.wantedCool == 1 && t.mode.damperTarget == 1000) =
      true := by decide +kernel

/-- §6.11: a damper step of 20. -/
theorem test_damper :
    ok (exec .damperTimerExpiry
        { economizing.zone 245 with mode := { economizing.mode with damper := 150, cool2 := false } })
      (fun t => t.mode.damper == 170 && t.mode.mode == .econ) = true := by decide +kernel

/-- §7.11 at 10030.0 and 11431.5: prove expiry by the low-pressure switch. -/
theorem test_prove :
    ok (exec (.proveExpiry .c1) (sharing.proving .c1)) (fun t => t.stageState .c1 == .runLock) =
        true ∧
      ok (exec (.proveExpiry .c1) ((sharing.proving .c1).accept .lp1 .active))
        (fun t => t.slot .c1 == ⟨.tripped, some 600000, none, [0]⟩) = true := by decide +kernel

/-- §7.11 at 12363.0: the third trip locks, LP1 then LOCKOUT. -/
theorem test_locks :
    ok (exec (.proveExpiry .c1)
        { ((sharing.proving .c1).accept .lp1 .active).setSlot .c1
            ⟨.proving, some 180000, some 30000, [10500, 11431]⟩ with seconds := 12363 })
      (fun t => t.slot .c1 == ⟨.locked, none, none, [10500, 11431, 12363]⟩ &&
        (t.fault.record.map FaultRecord.category) == some .lp1 && t.fault.later == 0x40000) =
      true := by decide +kernel

/-- R154: a coil below 1.0 °C loads the freeze timer of a running compressor. -/
theorem test_coil :
    ok (exec (.conversionComplete 3328) (runningC1.scanning (.external .coil1)))
      (fun t => t.stage.freeze1 == none) = true ∧
    ok (exec (.conversionComplete 3328)
        ((runningC1.setSensor .coil1 { Sensor.start with state := .unseen }).scanning
          (.external .coil1)))
      (fun t => t.stage.freeze1 == some 60000 && (t.sensor .coil1).value == some (-47)) = true := by
  decide +kernel

/-- §8.11 at 500.006: the cable pulled. -/
theorem test_cable :
    ok (exec (.conversionComplete 4095) ((sharing.zone 244).scanning (.external .zone)))
      (fun t => (t.sensor .zone).state == .holding && (t.sensor .zone).value == some 244 &&
        (t.sensor .zone).badStreak == 1 && t.mode.zoneTemp == some 244) = true := by decide +kernel

/-- R153: HP1 with C1 running trips it; R21: SMOKE shuts the station down. -/
theorem test_inputs :
    ok (exec (.inputSample .hp1 false) (runningC1.streakOf .hp1 2))
      (fun t => t.stageState .c1 == .tripped) = true ∧
    ok (exec (.inputSample .smoke false) (runningC1.streakOf .smoke 2))
      (fun t => t.station.state == .shutdown && t.stageState .c1 == .offLock && !t.pins.fan) =
      true := by decide +kernel

/-- R183 to R185: a first acceptance of FILTER brings the selection and the start of C1 before the raise,
whose record shows them. -/
theorem test_settleThenRaise :
    ok (exec (.inputSample .filter false)
        ({ (sharing.inState .solo).setInput .filter
            ⟨.unsettled, some true, 2, some 20⟩ with mode.fan := true }))
      (fun t => t.stageState .c1 == .proving &&
        t.fault.record.map (fun r => (r.category, r.stages.c1, r.staged)) ==
          some (.filter, .proving, 96)) = true := by decide +kernel

/-! ## States and operands that meet the hypotheses of the statements -/

theorem witness_StepRunsFrontCommand :
    ∃ (s : State), s.pending = [] :=
  ⟨sharing, by decide +kernel⟩

theorem witness_SupplyOutOfRangeStopsThePart :
    ∃ (c : Instr) (s : State), s.powered = false ∧ c ≠ .powerUp ∧ c ≠ .supplyOutOfRange :=
  ⟨.restart, { sharing with powered := false }, by decide +kernel⟩

theorem witness_RestartKeepsAndResets :
    ∃ (s : State), s.powered = true :=
  ⟨sharing, by decide +kernel⟩

theorem witness_ResponseEndEmptiesTheBuffer :
    (∃ (s : State) (r : List Byte), s.powered = true ∧ s.svc.buffer = .held r false) ∧
    (∃ (s : State) (r : List Byte), s.powered = true ∧ s.svc.buffer = .held r true) :=
  ⟨⟨{ sharing with svc.buffer := .held [0xA5] false }, [0xA5], by decide +kernel⟩,
   ⟨{ sharing with svc.buffer := .held [0xA5] true }, [0xA5], by decide +kernel⟩⟩

theorem witness_TicksWriteTheirOwnState :
    (∃ (s : State), s.powered = true) ∧
    (∃ (s : State), s.powered = true ∧ s.adm.shedSpacing.isSome = true) ∧
    (∃ (s : State), s.powered = true) ∧
    (∃ (s : State), s.powered = true ∧ s.scan.timer.isSome = true) :=
  ⟨⟨{ sharing with seconds := 0xFFFFFFFF }, by decide +kernel⟩,
   ⟨{ sharing with adm.shedSpacing := some 60000 }, by decide +kernel⟩,
   ⟨sharing, by decide +kernel⟩,
   ⟨sharing, by decide +kernel⟩⟩

theorem witness_JoinDecision :
    (∃ (s : State), s.powered = true ∧ s.station.state = .joining ∧
      s.station.join.isSome = true ∧ s.accepted .smoke = .active) ∧
    (∃ (s : State), s.powered = true ∧ s.station.state = .joining ∧
      s.station.join.isSome = true ∧ s.accepted .smoke ≠ .active ∧ s.cfg.roofSize = 1) ∧
    (∃ (s : State), s.powered = true ∧ s.station.state = .joining ∧
      s.station.join.isSome = true ∧ s.accepted .smoke ≠ .active ∧ s.cfg.roofSize ≠ 1 ∧
      3 ≤ s.link.drops) ∧
    (∃ (s : State) (n : Nat), s.powered = true ∧ s.station.state = .joining ∧
      s.station.join.isSome = true ∧ s.accepted .smoke ≠ .active ∧ s.cfg.roofSize ≠ 1 ∧
      s.link.drops < 3 ∧ (s.entry n).state = .fresh) ∧
    (∃ (s : State), s.powered = true ∧ s.station.state = .joining ∧
      s.station.join.isSome = true ∧ s.accepted .smoke ≠ .active ∧ s.cfg.roofSize ≠ 1 ∧
      s.link.drops < 3 ∧ (∀ n : Nat, (s.entry n).state ≠ .fresh)) ∧
    (∃ (s : State) (pinHigh : Bool), s.accepts .smoke pinHigh false = true ∧
      s.station.state = .shutdown) :=
  ⟨⟨joining.accept .smoke .active, by decide +kernel⟩,
   ⟨{ joining with config := some { cfgA with roofSize := 1 } }, by decide +kernel⟩,
   ⟨{ joining with link.drops := 3 }, by decide +kernel⟩,
   ⟨{ joining.hears 48 with link.drops := 2 }, 48, by decide +kernel⟩,
   ⟨{ joining with link.drops := 2 }, by
      and_intros <;>
        first
        | decide +kernel
        | exact joining_noFresh⟩,
   ⟨(sharing.inState .shutdown).accept .smoke .active |>.streakOf .smoke 2, true,
       by decide +kernel⟩⟩

theorem witness_SilenceIsolates :
    (∃ (s : State), s.powered = true ∧ s.station.silence.isSome = true ∧
      s.station.state = .sharing) ∧
    (∃ (s : State), s.powered = true ∧ s.station.silence.isSome = true ∧
      s.station.state ≠ .sharing) :=
  ⟨⟨sharing, by decide +kernel⟩,
   ⟨{ joining with station.silence := some 6000 }, by decide +kernel⟩⟩

theorem witness_ConfigureTakesAValidRecord :
    (∃ (s : State) (b : List Byte), s.powered = true ∧ s.svc.buffer = .empty ∧
      s.station.state = .config ∧ b.length = 70 ∧ firstFailing b = none) ∧
    (∃ (s : State) (b : List Byte) (n : Nat), s.powered = true ∧ s.svc.buffer = .empty ∧
      s.station.state = .config ∧ b.length = 70 ∧ firstFailing b = some n) ∧
    (∃ (s : State) (b : List Byte), s.powered = true ∧ s.svc.buffer = .empty ∧
      s.station.state ≠ .config ∧ b.length = 70) ∧
    (∃ (s : State) (b : List Byte), s.powered = true ∧ s.svc.buffer = .empty ∧ b.length ≠ 70) :=
  ⟨⟨State.reset, recA, by decide +kernel⟩,
   ⟨State.reset, badHeat, 12, by decide +kernel⟩,
   ⟨sharing, badHeat, by decide +kernel⟩,
   ⟨sharing, [1], by decide +kernel⟩⟩

theorem witness_StartEntersJoining :
    (∃ (s : State) (cfg : ConfigRecord), s.powered = true ∧ s.svc.buffer = .empty ∧
      s.station.state = .config ∧ s.config = some cfg ∧ s.link.onWire = none) ∧
    (∃ (s : State), s.powered = true ∧ s.svc.buffer = .empty ∧
      ¬(s.station.state = .config ∧ s.config.isSome = true)) :=
  ⟨⟨configured, cfgA, by decide +kernel⟩,
   ⟨State.reset, by decide +kernel⟩⟩

theorem witness_ReadsAnswerTheRecords :
    (∃ (s : State), s.powered = true ∧ s.svc.buffer = .empty) ∧
    (∃ (s : State) (n : Byte), s.powered = true ∧ s.svc.buffer = .empty ∧ 1 ≤ n.toNat ∧
      n.toNat ≤ 48) ∧
    (∃ (s : State) (n : Byte), s.powered = true ∧ s.svc.buffer = .empty ∧
      ¬(1 ≤ n.toNat ∧ n.toNat ≤ 48)) ∧
    (∃ (s : State), s.powered = true ∧ s.svc.buffer = .empty) :=
  ⟨⟨sharing, by decide +kernel⟩,
   ⟨sharing, 48, by decide +kernel⟩,
   ⟨sharing, 49, by decide +kernel⟩,
   ⟨sharing, by decide +kernel⟩⟩

theorem witness_RaiseTakesACategory :
    (∃ (s : State), s.fault.record = none) ∧
    (∃ (s : State) (c : Category) (r : FaultRecord), s.fault.record = some r ∧ r.category = c) ∧
    (∃ (s : State) (c : Category) (r : FaultRecord), s.fault.record = some r ∧ r.category ≠ c) :=
  ⟨⟨sharing, by decide +kernel⟩,
   ⟨sharing.raise .filter, .filter, sharing.snapshot .filter, by decide +kernel⟩,
   ⟨sharing.raise .filter, .lp1, sharing.snapshot .filter, by decide +kernel⟩⟩

theorem witness_ClearRemovesWhatHasEnded :
    (∃ (s : State) (set : BitVec 24), s.powered = true ∧ s.svc.buffer = .empty ∧
      set.getLsbD 23 = false) ∧
    (∃ (s : State) (set : BitVec 24), s.powered = true ∧ s.svc.buffer = .empty ∧
      set.getLsbD 23 = true) :=
  ⟨⟨sharing.raise .filter, 0x7FFFFF, by decide +kernel⟩,
   ⟨sharing, 0x800000, by decide +kernel⟩⟩

theorem witness_UnlockReleasesALockedSlot :
    (∃ (s : State) (code : Byte) (i : Slot), s.powered = true ∧ s.svc.buffer = .empty ∧
      s.station.state ≠ .config ∧ code.toNat = slotCode i ∧ s.stageState i = .locked) ∧
    (∃ (s : State) (code : Byte), s.powered = true ∧ s.svc.buffer = .empty ∧
      s.station.state ≠ .config ∧
      (∀ i : Slot, code.toNat = slotCode i → s.stageState i ≠ .locked)) ∧
    (∃ (s : State), s.powered = true ∧ s.svc.buffer = .empty ∧ s.station.state = .config) :=
  ⟨⟨locked, 4, .h2, by decide +kernel⟩,
   ⟨locked, 5, by
      and_intros <;>
        first
        | decide +kernel
        | exact fun i h => by cases i <;> simp_all [slotCode]⟩,
   ⟨configured, by decide +kernel⟩⟩

theorem witness_LeaveTakesTheStationOff :
    (∃ (s : State), s.powered = true ∧ s.svc.buffer = .empty ∧
      (s.station.state = .sharing ∨ s.station.state = .isolated ∨ s.station.state = .solo ∨
        s.station.state = .shutdown)) ∧
    (∃ (s : State), s.powered = true ∧ s.svc.buffer = .empty ∧
      (s.station.state = .config ∨ s.station.state = .joining ∨ s.station.state = .left)) :=
  ⟨⟨sharing, by decide +kernel⟩,
   ⟨joining, by decide +kernel⟩⟩

theorem witness_RollcallRequestsRoll :
    (∃ (s : State), s.powered = true ∧ s.svc.buffer = .empty ∧ s.station.state = .sharing) ∧
    (∃ (s : State), s.powered = true ∧ s.svc.buffer = .empty ∧ s.station.state ≠ .sharing) :=
  ⟨⟨sharing, by decide +kernel⟩,
   ⟨joining, by decide +kernel⟩⟩

theorem witness_LinkTestSetsMaskAndCount :
    (∃ (s : State) (mask : BitVec 16) (count : Byte), s.powered = true ∧ s.svc.buffer = .empty ∧
      s.station.state ≠ .config ∧ s.station.state ≠ .left ∧ mask ≠ 0 ∧ 1 ≤ count.toNat ∧
      count.toNat ≤ 16) ∧
    (∃ (s : State) (mask : BitVec 16) (count : Byte), s.powered = true ∧ s.svc.buffer = .empty ∧
      s.station.state ≠ .config ∧ s.station.state ≠ .left ∧
      (mask = 0 ∨ ¬(1 ≤ count.toNat ∧ count.toNat ≤ 16))) ∧
    (∃ (s : State), s.powered = true ∧ s.svc.buffer = .empty ∧
      (s.station.state = .config ∨ s.station.state = .left)) :=
  ⟨⟨sharing, 0x8000, 16, by decide +kernel⟩,
   ⟨sharing, 1, 17, by decide +kernel⟩,
   ⟨configured, by decide +kernel⟩⟩

theorem witness_AnswersWithoutEffect :
    (∃ (s : State), s.powered = true ∧ s.svc.buffer = .empty) ∧
    (∃ (s : State) (code : Byte) (payload : List Byte), s.powered = true ∧
      s.svc.buffer = .empty ∧ isRequest (.unknownRequest code payload) = true) :=
  ⟨⟨sharing, by decide +kernel⟩,
   ⟨sharing, 0x20, [1, 2], by decide +kernel⟩⟩

theorem witness_ServiceReceiverMoves :
    (∃ (s : State), s.powered = true ∧ s.svc.rx = .hunt) ∧
    (∃ (s : State), s.powered = true ∧ s.svc.rx = .collect) ∧
    (∃ (s : State), s.powered = true ∧ s.svc.rx = .collect) ∧
    (∃ (s : State) (frame : List Byte), s.powered = true ∧ completeServiceFrame frame = true ∧
      crcGood frame = false) ∧
    (∃ (s : State), s.powered = true ∧ s.svc.buffer ≠ .empty) :=
  ⟨⟨sharing, by decide +kernel⟩,
   ⟨{ sharing with svc.rx := .collect }, by decide +kernel⟩,
   ⟨{ sharing with svc.rx := .collect }, by decide +kernel⟩,
   ⟨sharing, [0x5A, 1, 0x10, 0, 0], by decide +kernel⟩,
   ⟨{ sharing with svc.buffer := .held [] false }, by decide +kernel⟩⟩

theorem witness_HeldBufferDiscardsRequests :
    ∃ (c : Instr) (s : State), s.powered = true ∧ isRequest c = true ∧ s.svc.buffer ≠ .empty :=
  ⟨.readStatus, { sharing with svc.buffer := .held [] false }, by decide +kernel⟩

theorem witness_LinkIdleStartsTheBackoff :
    (∃ (s : State), s.powered = true ∧ s.link.rxOn = true ∧ s.link.onWire = none ∧
      s.link.cutOff = false ∧ s.link.busy = true) ∧
    (∃ (s : State), s.powered = true ∧ s.link.rxOn = true ∧ s.link.onWire = none ∧
      s.link.cutOff = false ∧ s.link.leaveSlot = .empty ∧ s.link.shedSlot = .empty ∧
      s.link.stateSlot = .empty) :=
  ⟨⟨sending, by decide +kernel⟩,
   ⟨sharing, by decide +kernel⟩⟩

theorem witness_ReceiverCountsRejectedFrames :
    (∃ (s : State) (cause : ReceiveAbort), s.powered = true ∧ s.link.listening = true ∧
      abortOccurs s.link.rx cause = true) ∧
    (∃ (s : State) (frame : List Byte), s.powered = true ∧ s.link.canReceive = true ∧
      completeFrame frame = true ∧ parseFrame frame = none) ∧
    (∃ (s : State), s.powered = true ∧ s.link.listening = true ∧ s.link.rx = .discard ∧
      s.link.afterFrame = true) ∧
    (∃ (s : State), s.powered = true ∧ s.link.listening = true ∧ s.link.rx = .hunt) ∧
    (∃ (s : State) (frame : List Byte) (f : Frame), s.powered = true ∧ s.link.canReceive = true ∧
      parseFrame frame = some f ∧ f.station = s.number ∧ f.identity = s.identity) :=
  ⟨⟨{ sharing with link.rejected := 65535 }, .badStart 0xA7 true, by decide +kernel⟩,
   ⟨sharing, [0xA7, 6, 0x33, 21, 0x14, 0x82, 0xC4, 0x1B, 0, 0], by decide +kernel⟩,
   ⟨{ sharing with link.rx := .discard, link.afterFrame := true }, by decide +kernel⟩,
   ⟨sharing, by decide +kernel⟩,
   ⟨sharing, (leaveOf 12 ownId).encode 0, leaveOf 12 ownId, by decide +kernel⟩⟩

theorem witness_StateReceivedUpdatesItsEntry :
    ∃ (s : State) (frame : List Byte) (n : Nat) (id : BitVec 32) (f : StateFrame),
      s.powered = true ∧ s.link.canReceive = true ∧ parseFrame frame = some ⟨n, id, .state f⟩ ∧
      n ≠ s.number :=
  ⟨sharing, (stateOf 48).encode 0, 48, 0x1482C41B, report48, by decide +kernel⟩

theorem witness_LeaveReceivedEmptiesItsEntry :
    ∃ (s : State) (frame : List Byte) (n : Nat) (id : BitVec 32), s.powered = true ∧
      s.link.canReceive = true ∧ parseFrame frame = some ⟨n, id, .leave⟩ ∧ n ≠ s.number :=
  ⟨sharing, (leaveOf 1 0x1482C41B).encode 0, 1, 0x1482C41B, by decide +kernel⟩

theorem witness_ShedReceivedStopsTheOfferedStage :
    (∃ (s : State) (frame : List Byte) (n : Nat) (id : BitVec 32) (call : ShedCall) (i : Slot),
      s.powered = true ∧ s.link.canReceive = true ∧ parseFrame frame = some ⟨n, id, .shed call⟩ ∧
      n ≠ s.number ∧ s.station.state = .sharing ∧ s.offeredSlot = some i ∧ 0 < s.offer ∧
      (shedPrefix call.needed (s.candidates n call.level)).any (fun c => c.station == s.number) =
        true) ∧
    (∃ (s : State) (frame : List Byte) (n : Nat) (id : BitVec 32) (call : ShedCall),
      s.powered = true ∧ s.link.canReceive = true ∧ parseFrame frame = some ⟨n, id, .shed call⟩ ∧
      n ≠ s.number ∧
      (s.station.state = .isolated → s.station.cause = .duplicate ∨ s.station.cause = .none ∨
        s.link.drops ≠ 0) ∧
      (s.station.state = .sharing → (shedPrefix call.needed (s.candidates n call.level)).any
        (fun c => c.station == s.number) = false)) ∧
    (∃ (s : State) (frame : List Byte) (n : Nat) (id : BitVec 32) (call : ShedCall),
      s.powered = true ∧ s.link.canReceive = true ∧ parseFrame frame = some ⟨n, id, .shed call⟩ ∧
      n ≠ s.number ∧ s.station.state = .isolated ∧
      (s.station.cause = .silent ∨ s.station.cause = .transmit) ∧ s.link.drops = 0) :=
  ⟨⟨{ runningC1 with mode.level := 4 }, shed21.encode 0, 21, 0x1482C41B, ⟨6, 96⟩, .c1,
    by decide +kernel⟩,
   ⟨{ runningC1 with mode.level := 5, adm.state := .holdoff }, shed21.encode 0, 21, 0x1482C41B,
       ⟨6, 96⟩, by decide +kernel⟩,
   ⟨runningC1.inState .isolated, shed21.encode 0, 21, 0x1482C41B, ⟨6, 96⟩, by decide +kernel⟩⟩

theorem witness_DuplicateIsolates :
    (∃ (s : State) (frame : List Byte) (f : Frame), s.powered = true ∧ s.link.canReceive = true ∧
      parseFrame frame = some f ∧ f.station = s.number ∧ f.identity ≠ s.identity ∧
      (s.station.state = .joining ∨ s.station.state = .sharing ∨ s.station.state = .solo ∨
        s.station.state = .isolated)) ∧
    (∃ (s : State) (frame : List Byte) (f : Frame), s.powered = true ∧ s.link.canReceive = true ∧
      parseFrame frame = some f ∧ f.station = s.number ∧ f.identity ≠ s.identity ∧
      s.station.state = .shutdown) ∧
    (∃ (s : State) (frame : List Byte) (f : Frame), s.powered = true ∧ s.link.canReceive = true ∧
      parseFrame frame = some f ∧ f.station = s.number ∧ f.identity ≠ s.identity ∧
      s.station.state = .left) :=
  ⟨⟨sharing, (leaveOf 12 0x1482C41B).encode 0, leaveOf 12 0x1482C41B, by decide +kernel⟩,
   ⟨sharing.inState .shutdown, (leaveOf 12 0x1482C41B).encode 0, leaveOf 12 0x1482C41B,
       by decide +kernel⟩,
   ⟨sharing.inState .left, (leaveOf 12 0x1482C41B).encode 0, leaveOf 12 0x1482C41B,
       by decide +kernel⟩⟩

theorem witness_AttemptTakesFreshContent :
    (∃ (s : State), s.powered = true ∧ s.link.backoff.isSome = true) ∧
    (∃ (s : State), s.link.leaveSlot ≠ .current ∧ s.link.shedSlot ≠ .current) :=
  ⟨⟨sending, by decide +kernel⟩,
   ⟨sending, by decide +kernel⟩⟩

theorem witness_FailedAttemptsRetryThenDrop :
    (∃ (s : State) (w : WireFrame), s.powered = true ∧ s.link.onWire = some w ∧
      s.link.abandoned = false ∧ s.link.busy = true ∧ s.link.attempts < 8) ∧
    (∃ (s : State) (w : WireFrame), s.powered = true ∧ s.link.onWire = some w ∧
      s.link.abandoned = false ∧ 8 ≤ s.link.attempts) ∧
    (∃ (s : State) (w : WireFrame), s.powered = true ∧ s.link.onWire = some w ∧
      s.link.abandoned = true) :=
  ⟨⟨{ onTheWire with link.attempts := 7, adm.state := .holdoff }, wire, by decide +kernel⟩,
   ⟨{ onTheWire with link.attempts := 8, adm.state := .holdoff }, wire, by decide +kernel⟩,
   ⟨{ onTheWire with
       link.abandoned := true, link.leaveSlot := .current, link.stateSlot := .empty, adm.state := .holdoff },
       wire, by decide +kernel⟩⟩

theorem witness_SentFrameEndsTheAttempt :
    ∃ (s : State) (w : WireFrame), s.powered = true ∧ s.link.onWire = some w :=
  ⟨{ onTheWire with adm.state := .holdoff }, wire, by decide +kernel⟩

theorem witness_LinkTimersActOnTheQueue :
    (∃ (s : State), s.powered = true ∧ s.link.spacing.isSome = true ∧ s.link.busy = true ∧
      s.link.backoff = none) ∧
    (∃ (s : State), s.powered = true ∧ s.link.report.isSome = true) ∧
    (∃ (s : State), s.powered = true ∧ s.link.backoff.isSome = true) ∧
    (∃ (s : State), s.powered = true ∧ s.link.cutOff = true) ∧
    (∃ (s : State), s.powered = true ∧ s.link.spacing.isSome = true ∧ s.link.leaveSlot = .empty ∧
      s.link.shedSlot = .empty ∧ s.link.stateSlot = .empty) :=
  ⟨⟨{ sending with link.backoff := none, link.spacing := some 50 }, by decide +kernel⟩,
   ⟨sharing, by decide +kernel⟩,
   ⟨sending, by decide +kernel⟩,
   ⟨{ sharing with link.cutOff := true }, by decide +kernel⟩,
   ⟨{ sharing with link.spacing := some 50 }, by decide +kernel⟩⟩

theorem witness_EntriesAge :
    (∃ (s : State) (n : Nat), s.powered = true ∧ (s.entry n).state = .fresh ∧
      (s.entry n).freshness.isSome = true) ∧
    (∃ (s : State) (n : Nat), s.powered = true ∧ (s.entry n).state = .stale ∧
      (s.entry n).freshness.isSome = true) ∧
    (∃ (s : State) (n : Nat), s.powered = true ∧ (s.entry n).claimHold.isSome = true) ∧
    (∃ (s : State) (n m : Nat) (r : Report) (d : Side), s.powered = true ∧
      (s.entry n).claimHold.isSome = true ∧ (s.entry n).mark = true ∧
      s.station.state.working = true ∧ s.mode.mode.side = some d ∧ s.mode.yieldHold = none ∧
      (s.formDemand s.mode).level < 7 ∧ s.runningCount d.opposite = 0 ∧
      (s.entry m).state = .fresh ∧ (s.entry m).mark = true ∧ (s.entry m).report = some r ∧
      (if d = .cooling then r.unitMode = 4 else r.unitMode = 3 ∨ r.unitMode = 2) ∧
      ((s.formDemand s.mode).level < r.level ∨ (r.level = (s.formDemand s.mode).level ∧ m <
        s.number))) :=
  ⟨⟨sharing.hears 48, 48, by decide +kernel⟩,
   ⟨sharing.setEntry 1 { heard with state := .stale }, 1, by decide +kernel⟩,
   ⟨sharing.setEntry 48 heard, 48, by decide +kernel⟩,
   ⟨(runningC1.setEntry 13 { coolEntry with report := some report48.report }).setEntry 48
       { heard with mark := true }, 48, 13, report48.report, .cooling, by decide +kernel⟩⟩

theorem witness_SettleGrantsAClaimThatFits :
    ∃ (s : State) (c : OpenClaim), s.powered = true ∧ s.adm.claim = some c ∧
      s.adm.state = .settling ∧ s.adm.settle.isSome = true ∧ s.station.state = .sharing ∧
      s.stillWanted c.slot = true ∧
      s.base + s.aheadTotal c.level + c.increment ≤ s.table.ceiling ∧ s.modeConflict c = false :=
  ⟨{ claiming with table.ceiling := 133 }, claimC1, by decide +kernel⟩

theorem witness_SettleDeniesOrWithdraws :
    (∃ (s : State) (c : OpenClaim), s.powered = true ∧ s.adm.claim = some c ∧
      s.adm.state = .settling ∧ s.adm.settle.isSome = true ∧ s.station.state = .sharing ∧
      s.stageState c.slot = .claimed ∧ s.stillWanted c.slot = true ∧
      (s.table.ceiling < s.base + s.aheadTotal c.level + c.increment ∨ s.modeConflict c = true)) ∧
    (∃ (s : State) (c : OpenClaim), s.powered = true ∧ s.adm.claim = some c ∧
      s.adm.state = .settling ∧ s.adm.settle.isSome = true ∧ s.station.state = .sharing ∧
      s.stageState c.slot = .claimed ∧ s.stillWanted c.slot = false ∧
      (s.formDemand s.mode).level = 0) ∧
    (∃ (s : State) (c : OpenClaim), s.powered = true ∧ s.adm.claim = some c ∧
      s.adm.state = .settling ∧ s.adm.settle.isSome = true ∧ s.station.state = .sharing ∧
      s.stageState c.slot = .claimed ∧ s.stillWanted c.slot = false ∧
      ((s.formMode .plain).wantedCool = s.runningCount .cooling ∨ ((s.formMode .plain).wantedCool
        ≤ s.runningCount .cooling ∧ (s.formMode .plain).wantedCool = s.mode.wantedCool)) ∧
      ((s.formMode .plain).wantedHeat = s.runningCount .heating ∨ ((s.formMode .plain).wantedHeat
        ≤ s.runningCount .heating ∧ (s.formMode .plain).wantedHeat = s.mode.wantedHeat))) :=
  ⟨⟨{ claiming with table.ceiling := 132 }, claimC1, by decide +kernel⟩,
   ⟨{ claiming.zone 240 with mode.wantedCool := 0 }, claimC1, by decide +kernel⟩,
   ⟨{ claiming with
       mode.changeover := some 300000, mode.changeoverSide := .heating, mode.wantedCool := 0 },
       claimC1, by decide +kernel⟩⟩

theorem witness_PreCheckDecides :
    (∃ (c : Instr) (s : State) (i : Slot), s.powered = true ∧
      ((c = .holdoffExpiry ∧ s.adm.state = .holdoff) ∨ (c = .shedWaitExpiry ∧ s.adm.state =
        .shedWait)) ∧ s.adm.holdoff.isSome = true ∧ s.station.state = .sharing ∧
      1 ≤ s.mode.level ∧ s.select.stage.presented = some i ∧
      s.base + s.heldTotal + s.increment i ≤ s.table.ceiling) ∧
    (∃ (c : Instr) (s : State) (i : Slot), s.powered = true ∧
      ((c = .holdoffExpiry ∧ s.adm.state = .holdoff) ∨ (c = .shedWaitExpiry ∧ s.adm.state =
        .shedWait)) ∧ s.adm.holdoff.isSome = true ∧ s.station.state = .sharing ∧
      1 ≤ s.mode.level ∧ s.select.stage.presented = some i ∧
      s.table.ceiling < s.base + s.heldTotal + s.increment i ∧
      (s.cfg.shedThreshold ≤ (if s.mode.level = 7 then 7 else min 6
        (s.mode.level + s.adm.denials / 2))) ∧ s.adm.shedSpacing = none) ∧
    (∃ (c : Instr) (s : State) (i : Slot), s.powered = true ∧
      ((c = .holdoffExpiry ∧ s.adm.state = .holdoff) ∨ (c = .shedWaitExpiry ∧ s.adm.state =
        .shedWait)) ∧ s.adm.holdoff.isSome = true ∧ s.station.state = .sharing ∧
      1 ≤ s.mode.level ∧ s.select.stage.presented = some i ∧
      s.table.ceiling < s.base + s.heldTotal + s.increment i ∧
      ((if s.mode.level = 7 then 7 else min 6 (s.mode.level + s.adm.denials / 2)) <
        s.cfg.shedThreshold ∨ s.adm.shedSpacing.isSome = true)) ∧
    (∃ (c : Instr) (s : State), s.powered = true ∧
      ((c = .holdoffExpiry ∧ s.adm.state = .holdoff) ∨ (c = .shedWaitExpiry ∧ s.adm.state =
        .shedWait)) ∧ s.adm.holdoff.isSome = true ∧
      (s.select.stage.presented = none ∨ s.mode.level = 0 ∨ s.station.state.working = false)) :=
  ⟨⟨.holdoffExpiry, { waiting with table.ceiling := 133 }, .c1, by decide +kernel⟩,
   ⟨.shedWaitExpiry, { waiting with
       table.ceiling := 132, mode.level := 5, adm.state := .shedWait }, .c1, by decide +kernel⟩,
   ⟨.holdoffExpiry, { waiting with table.ceiling := 132, mode.level := 4 }, .c1,
       by decide +kernel⟩,
   ⟨.holdoffExpiry, { waiting with mode.level := 0 }, by decide +kernel⟩⟩

theorem witness_LocalDecisionKeepsTheLimit :
    (∃ (s : State) (i : Slot) (counted limit : Nat), s.powered = true ∧ s.adm.state = .holdoff ∧
      s.adm.holdoff.isSome = true ∧
      ((s.station.state = .isolated ∧ counted = s.stagedLoad ∧ limit = s.cfg.cap) ∨
        (s.station.state = .solo ∧ counted = s.stagedLoad + s.fanLoad ∧ limit = s.cfg.ceiling)) ∧
      1 ≤ s.mode.level ∧ s.select.stage.presented = some i ∧ counted + s.increment i ≤ limit) ∧
    (∃ (s : State) (i : Slot) (counted limit : Nat), s.powered = true ∧ s.adm.state = .holdoff ∧
      s.adm.holdoff.isSome = true ∧
      ((s.station.state = .isolated ∧ counted = s.stagedLoad ∧ limit = s.cfg.cap) ∨
        (s.station.state = .solo ∧ counted = s.stagedLoad + s.fanLoad ∧ limit = s.cfg.ceiling)) ∧
      1 ≤ s.mode.level ∧ s.select.stage.presented = some i ∧ limit < counted + s.increment i) :=
  ⟨⟨waiting.inState .isolated, .c1, 0, 96, by decide +kernel⟩,
   ⟨{ waiting.inState .solo with config := some { cfgA with ceiling := 132 } }, .c1, 37, 132,
       by decide +kernel⟩⟩

theorem witness_ZoneTemperatureAndSide :
    ∃ (s : State) (temps : List Int) (c h : Int), s.powered = true ∧
      s.mode.damperTimer.isSome = true ∧ s.station.state ≠ .config ∧
      (temps = s.table.entries.toList.filterMap (fun e => if e.state = .fresh ∧ e.mark = true then
        e.report.bind (fun r => if r.ownSensor = true then r.spaceTemp else none) else none)) ∧
      (c = s.cfg.coolSetpoint + (if s.accepted .occ = .inactive then s.cfg.setback else 0)) ∧
      (h = s.cfg.heatSetpoint - (if s.accepted .occ = .inactive then s.cfg.setback else 0)) :=
  ⟨sharing, [], 240, 210, by decide +kernel⟩

theorem witness_DemandLevelOfTheError :
    (∃ (s : State) (z e : Int), s.powered = true ∧ s.mode.damperTimer.isSome = true ∧
      s.station.state ≠ .config ∧ s.zoneReading.1 = some z ∧
      (e = (if s.coolSetpoint < z then z - s.coolSetpoint else if z < s.heatSetpoint then
        s.heatSetpoint - z else 0))) ∧
    (∃ (s : State) (e : Int),
      (e =
        (match s.zoneReading.1 with | none => 0 | some z => if s.coolSetpoint < z then z - s.coolSetpoint else if z < s.heatSetpoint then s.heatSetpoint - z else 0))) ∧
    (∃ (s : State), s.powered = true ∧ s.mode.damperTimer.isSome = true ∧
      s.station.state ≠ .config ∧ s.zoneReading.1 = none) ∧
    (∃ (s t : State), (s.mode.side = .none → s.mode.level = 0) ∧ step s = .next t ∧
      t.mode.side = .none) :=
  ⟨⟨sharing, 257, 17, by decide +kernel⟩,
   ⟨sharing, 17, by decide +kernel⟩,
   ⟨unoccupied, by decide +kernel⟩,
   ⟨{ State.reset with pending := [.secondsTick] }, { State.reset with
       pending := [], seconds := 1 }, by decide +kernel, rfl, rfl⟩⟩

theorem witness_DamperStepsTowardItsTarget :
    ∃ (s : State), s.powered = true ∧ s.mode.damperTimer.isSome = true ∧ s.station.state ≠ .config :=
  ⟨sharing, by decide +kernel⟩

theorem witness_ModeTimersExpire :
    (∃ (s : State), s.powered = true ∧ s.mode.changeover.isSome = true ∧ s.mode.mode ≠ .econ ∧
      (∀ i : Slot, s.isRunning i = false)) ∧
    (∃ (s : State) (z : Int) (d : Nat), s.powered = true ∧ s.mode.fullOpen = .running d ∧
      s.station.state.working = true ∧ s.mode.mode = .econ ∧ s.mode.damper = 1000 ∧
      s.mode.yieldHold = none ∧ s.economizerAvailable = true ∧ s.zoneReading.1 = some z ∧
      s.heatSetpoint ≤ s.coolSetpoint ∧ 5 ≤ z - s.coolSetpoint) ∧
    (∃ (s : State) (z : Int) (d : Nat), s.powered = true ∧ s.mode.fullOpen = .running d ∧
      s.station.state.working = true ∧ s.mode.mode = .econ ∧ s.mode.cool1 = true ∧
      s.mode.yieldHold = none ∧ s.economizerAvailable = true ∧ s.zoneReading.1 = some z ∧
      s.heatSetpoint ≤ s.coolSetpoint ∧ 0 < z - s.coolSetpoint ∧ z - s.coolSetpoint < 5) ∧
    (∃ (s : State) (m : ModeLogic), s.powered = true ∧ s.mode.changeover.isSome = true ∧
      s.startsHeld = true ∧ m = ({ s with mode.changeover := none } : State).formMode .plain ∧
      (s.runningCount .cooling ≤ m.wantedCool ∨ m.wantedCool = s.mode.wantedCool) ∧
      (s.runningCount .heating ≤ m.wantedHeat ∨ m.wantedHeat = s.mode.wantedHeat)) ∧
    (∃ (s : State) (z : Int), s.powered = true ∧ s.mode.damperTimer.isSome = true ∧
      s.station.state.working = true ∧ (s.mode.mode = .off ∨ s.mode.mode = .vent) ∧
      s.mode.yieldHold = none ∧ s.zoneReading.1 = some z ∧ 5 ≤ z - s.coolSetpoint ∧
      s.heatSetpoint ≤ s.coolSetpoint ∧ s.economizerAvailable = true ∧
      s.runningCount .cooling = 0 ∧
      (s.mode.changeover = none ∨ s.mode.changeoverSide = .cooling) ∧ s.mode.damper ≤ 1000 ∧
      s.cfg.damperMin ≤ 1000 ∧
      (∀ n : Nat, (s.entry n).state.heard = true → (s.entry n).mark = true →
        (s.entry n).report.map Report.unitMode ≠ some 4 ∧ (s.entry n).claim.map ClaimPart.intended
        ≠ some 4)) ∧
    (∃ (s : State) (d : Side) (n : Nat) (r : Report), s.powered = true ∧
      s.mode.damperTimer.isSome = true ∧ s.station.state.working = true ∧
      s.mode.yieldHold = some d ∧ (s.formDemand s.mode).level ≠ 7 ∧
      (s.entry n).state.heard = true ∧ (s.entry n).mark = true ∧ (s.entry n).report = some r ∧
      (if d = .cooling then r.unitMode = 4 else r.unitMode = 3 ∨ r.unitMode = 2)) ∧
    (∃ (s : State) (d : Side), s.powered = true ∧ s.mode.damperTimer.isSome = true ∧
      s.station.state.working = true ∧ s.mode.yieldHold = some d ∧ s.oneSide = true ∧
      s.heatSetpoint ≤ s.coolSetpoint ∧
      ((s.formDemand s.mode).level = 7 ∨ (∀ n : Nat, (s.entry n).state.heard = true →
        (s.entry n).mark = true → ∀ r ∈ (s.entry n).report, ¬(if d = .cooling then r.unitMode = 4
        else r.unitMode = 3 ∨ r.unitMode = 2)))) :=
  ⟨⟨{ sharing with mode.changeover := some 300000 }, by
      and_intros <;>
        first
        | decide +kernel
        | exact fun i => by cases i <;> decide +kernel⟩,
   ⟨economizing.zone 245, 245, 120000, by decide +kernel⟩,
   ⟨economizing.zone 244, 244, 120000, by decide +kernel⟩,
   ⟨{ leavingEcon with mode.changeover := some 300000 }, { leavingEcon with
       mode.changeover := none }.formMode .plain, by decide +kernel⟩,
   ⟨fresh, 245, by
      and_intros <;>
        first
        | decide +kernel
        | exact fun n h => by simp [joined_noneHeard fresh rfl n] at h⟩,
   ⟨(yielding.setEntry 13 { coolEntry with report := some report48.report }), .cooling, 13,
       report48.report, by decide +kernel⟩,
   ⟨yielding, .cooling, by
      and_intros <;>
        first
        | decide +kernel
        | exact Or.inr (fun n h => by simp [joined_noneHeard yielding rfl n] at h)⟩⟩

theorem witness_OffDelayTurnsTheFanOff :
    (∃ (s : State), s.powered = true ∧ s.mode.offDelay.isSome = true ∧
      s.station.state.working = true ∧ s.occupied = false ∧ s.zoneReading.1 = none ∧
      (∀ i : Slot, s.isRunning i = false ∧ s.stageState i ≠ .claimed)) ∧
    (∃ (s : State), s.powered = true ∧ s.mode.offDelay.isSome = true ∧
      s.station.state.working = true ∧ s.occupied = true) ∧
    (∃ (s : State) (z : Int), s.powered = true ∧ s.mode.offDelay.isSome = true ∧
      s.station.state.working = true ∧ s.occupied = false ∧ s.zoneReading.1 = some z ∧
      s.heatSetpoint ≤ z ∧ z ≤ s.coolSetpoint ∧
      (∀ i : Slot, s.isRunning i = false ∧ s.stageState i ≠ .claimed)) ∧
    (∃ (s : State), s.powered = true ∧ s.mode.offDelay.isSome = true ∧
      s.station.state.working = true ∧ s.occupied = false ∧ (s.formMode .plain).wantedCool = 0 ∧
      (s.formMode .plain).wantedHeat = 0 ∧ (s.formMode .plain).mode ≠ .econ ∧
      (∀ i : Slot, s.isRunning i = false ∧ s.stageState i ≠ .claimed)) :=
  ⟨⟨unoccupied, by
      and_intros <;>
        first
        | decide +kernel
        | exact fun i => by cases i <;> decide +kernel⟩,
   ⟨{ sharing with mode.offDelay := some 60000 }, by decide +kernel⟩,
   ⟨unoccupied.zone 270, 270, by
      and_intros <;>
        first
        | decide +kernel
        | exact fun i => by cases i <;> decide +kernel⟩,
   ⟨{ unoccupied.zone 300 with mode := { unoccupied.mode with yieldHold := some .cooling }
       }.setEntry 13 { coolEntry with report := some report48.report }, by
      and_intros <;>
        first
        | decide +kernel
        | exact fun i => by cases i <;> decide +kernel⟩⟩

theorem witness_FanProofDecides :
    (∃ (s : State), s.powered = true ∧ s.stage.fanProofTimer.isSome = true ∧
      s.station.state.working = true ∧ s.mode.fan = true ∧ s.stage.fanProof = .waiting ∧
      s.accepted .fanProve = .active) ∧
    (∃ (s : State), s.powered = true ∧ s.stage.fanProofTimer.isSome = true ∧
      s.station.state.working = true ∧ s.mode.fan = true ∧
      ((s.stage.fanProof = .waiting ∧ s.accepted .fanProve ≠ .active) ∨ s.stage.fanProof =
        .recovering)) ∧
    (∃ (s : State) (pinHigh : Bool), s.accepts .fanProve pinHigh true = true ∧
      s.stage.fanProof ≠ .idle) ∧
    (∃ (s : State) (pinHigh : Bool), s.accepts .fanProve pinHigh false = true ∧
      s.stage.fanProof ≠ .idle) :=
  ⟨⟨{ sharing.accept .fanProve .active with
      stage.fanProof := .waiting, stage.fanProofTimer := some 30000 }, by decide +kernel⟩,
   ⟨{ sharing with stage.fanProof := .recovering, stage.fanProofTimer := some 30000 },
       by decide +kernel⟩,
   ⟨{ sharing with stage.fanProof := .failed }.streakOf .fanProve 2, false, by decide +kernel⟩,
   ⟨(sharing.accept .fanProve .active).streakOf .fanProve 2, true, by decide +kernel⟩⟩

theorem witness_ProveExpiryProvesOrTrips :
    (∃ (s : State) (i : Slot), s.powered = true ∧ s.stageState i = .proving ∧
      (s.slot i).prove.isSome = true ∧ s.proveFailure i = none) ∧
    (∃ (s : State) (i : Slot) (cause : Category), s.powered = true ∧ s.stageState i = .proving ∧
      (s.slot i).prove.isSome = true ∧ s.proveFailure i = some cause) ∧
    (∃ (s : State) (pinHigh : Bool), s.accepts .heatProve pinHigh true = true) ∧
    (∃ (s : State) (pinHigh : Bool), s.accepts .heatProve pinHigh false = true) ∧
    (∃ (s : State) (n : Circuit) (r : InputRole) (cause : Category) (pinHigh : Bool),
      ((n = .one ∧ r = .lp1 ∧ cause = .lp1) ∨ (n = .two ∧ r = .lp2 ∧ cause = .lp2)) ∧
      s.accepts r pinHigh true = true) :=
  ⟨⟨sharing.proving .c1, .c1, by decide +kernel⟩,
   ⟨sharing.proving .h1, .h1, .heatProve, by decide +kernel⟩,
   ⟨(sharing.proving .h1).streakOf .heatProve 2, false, by decide +kernel⟩,
   ⟨((sharing.slotIn .h1 .runLock).accept .heatProve .active).streakOf .heatProve 2, true,
       by decide +kernel⟩,
   ⟨(sharing.slotIn .c2 .runFree).streakOf .lp2 2, .two, .lp2, .lp2, false, by decide +kernel⟩⟩

theorem witness_MinRunFreesTheStage :
    (∃ (s : State) (i : Slot), s.powered = true ∧ s.stageState i = .runLock ∧
      (s.slot i).timer.isSome = true ∧ s.orderLaw = true ∧ s.wanted (sideOf i) = 0) ∧
    (∃ (s : State) (i : Slot), s.powered = true ∧ s.stageState i = .runLock ∧
      (s.slot i).timer.isSome = true ∧ s.oneSide = true ∧ s.startsHeld = true ∧
      s.runningCount (sideOf i) ≤ s.wanted (sideOf i) ∧
      s.runningCount (sideOf i) ≤
        (match sideOf i with | .cooling => (s.formMode .plain).wantedCool | .heating => (s.formMode .plain).wantedHeat)) :=
  ⟨⟨{ runningC1.slotIn .c1 .runLock with mode.wantedCool := 0 }, .c1, by decide +kernel⟩,
   ⟨{ runningC1.slotIn .c1 .runLock with adm.state := .holdoff }, .c1, by decide +kernel⟩⟩

theorem witness_OffTimersAndSelection :
    (∃ (s : State) (i : Slot), s.powered = true ∧ s.stageState i = .offLock ∧
      (s.slot i).timer.isSome = true ∧ s.startsHeld = true) ∧
    (∃ (s : State) (i : Slot), s.powered = true ∧ s.stageState i = .tripped ∧
      (s.slot i).timer.isSome = true) ∧
    (∃ (s : State), s.powered = true ∧ s.stage.interStage.isSome = true) ∧
    (∃ (s : State) (i : Slot), s.powered = true ∧ s.stageState i = .offLock ∧
      (s.slot i).timer.isSome = true) :=
  ⟨⟨{ sharing.slotIn .h2 .offLock with adm.state := .holdoff }, .h2, by decide +kernel⟩,
   ⟨sharing.slotIn .c2 .tripped, .c2, by decide +kernel⟩,
   ⟨{ sharing with stage.interStage := some 60000 }, by decide +kernel⟩,
   ⟨sharing.slotIn .h2 .offLock, .h2, by decide +kernel⟩⟩

theorem witness_FreezeExpiryTrips :
    (∃ (s : State) (n : Circuit), s.powered = true ∧ (s.stage.freeze n).isSome = true ∧
      s.isRunning (slotOfCircuit n) = true) ∧
    (∃ (s : State) (n : Circuit), s.powered = true ∧ (s.stage.freeze n).isSome = true ∧
      s.isRunning (slotOfCircuit n) = false ∧ s.startsHeld = true) ∧
    (∃ (s : State) (n : Circuit) (rest : List Conversion), s.powered = true ∧
      s.scan.scan = .external (coilOf n) :: rest ∧ s.scan.state = .normal ∧
      (s.sensor (coilOf n)).state ≠ .unfitted ∧ s.startsHeld = true) ∧
    (∃ (s : State) (rest : List Conversion), s.powered = true ∧
      s.scan.scan = .external .supply :: rest ∧ s.scan.state = .normal) :=
  ⟨⟨{ runningC1 with stage.freeze1 := some 60000 }, .one, by decide +kernel⟩,
   ⟨{ runningC1 with stage.freeze2 := some 60000, adm.state := .holdoff }, .two,
       by decide +kernel⟩,
   ⟨{ (runningC1.setSensor .coil1 { Sensor.start with state := .unseen }).scanning (.external
       .coil1) with adm.state := .holdoff }, .one, [], by decide +kernel⟩,
   ⟨((sharing.slotIn .h2 .runLock).setSensor .supply { Sensor.start with
       state := .unseen }).scanning (.external .supply), [], by decide +kernel⟩⟩

theorem witness_ConversionAppliesTheResult :
    (∃ (s : State) (ch : Channel) (rest : List Conversion) (code : BitVec 12) (lin v : Int),
      s.powered = true ∧ s.scan.scan = .external ch :: rest ∧ s.scan.state = .normal ∧
      41 ≤ code.toNat ∧ code.toNat ≤ 4054 ∧
      (lin = (let T : List Int := [1500, 1016, 763, 621, 520, 439, 370, 308, 250, 194, 139, 83,
        22, -47, -132, -256, -600]; let i := code.toNat / 256; let f := code.toNat % 256; T.getD i
        0 + ((T.getD (i + 1) 0 - T.getD i 0) * f + 128) / 256)) ∧ v = max (-400) (min 1000 lin)) ∧
    (∃ (s : State) (ch : Channel) (rest : List Conversion) (code : BitVec 12), s.powered = true ∧
      s.scan.scan = .external ch :: rest ∧ s.scan.state = .normal ∧
      (code.toNat < 41 ∨ 4054 < code.toNat)) :=
  ⟨⟨sharing.scanning (.external .coil2), .coil2, [], 41, 1422, 1000, by decide +kernel⟩,
   ⟨sharing.scanning (.external .zone), .zone, [], 4055, by decide +kernel⟩⟩

theorem witness_ReferenceCheckCondemnsAndRestores :
    (∃ (s : State) (rest : List Conversion) (code : BitVec 12), s.powered = true ∧
      s.scan.scan = .refLow :: rest ∧ s.scan.state = .normal ∧ s.scan.failStreak = 1 ∧
      ¬(3879 ≤ s.scan.refHigh.toNat ∧ s.scan.refHigh.toNat ≤ 3903 ∧ 193 ≤ code.toNat ∧ code.toNat
        ≤ 217)) ∧
    (∃ (s : State) (rest : List Conversion) (code : BitVec 12), s.powered = true ∧
      s.scan.scan = .refLow :: rest ∧ s.scan.state = .suspect ∧ s.scan.passStreak = 1 ∧
      3879 ≤ s.scan.refHigh.toNat ∧ s.scan.refHigh.toNat ≤ 3903 ∧ 193 ≤ code.toNat ∧
      code.toNat ≤ 217) ∧
    (∃ (s : State) (ch : Channel) (rest : List Conversion), s.powered = true ∧
      s.scan.scan = .external ch :: rest ∧ s.scan.state = .suspect ∧
      (s.sensor ch).state ≠ .unfitted) ∧
    (∃ (s : State) (rest : List Conversion) (code : BitVec 12) (pass : Bool), s.powered = true ∧
      s.scan.scan = .refLow :: rest ∧
      pass = decide (3879 ≤ s.scan.refHigh.toNat ∧ s.scan.refHigh.toNat ≤ 3903 ∧ 193 ≤ code.toNat
        ∧ code.toNat ≤ 217) ∧
      ((s.scan.state = .normal ∧ (pass = true ∨ s.scan.failStreak = 0)) ∨ (s.scan.state = .suspect
        ∧ (pass = false ∨ s.scan.passStreak = 0)))) ∧
    (∃ (s : State) (rest : List Conversion), s.powered = true ∧ s.scan.scan = .refHigh :: rest) :=
  ⟨⟨{ sharing.scanning .refLow with scan.failStreak := 1, scan.refHigh := 3891 }, [], 192,
    by decide +kernel⟩,
   ⟨{ sharing.scanning .refLow with
      scan.state := .suspect, scan.passStreak := 1, scan.refHigh := 3903 }, [], 217,
          by decide +kernel⟩,
   ⟨{ sharing.scanning (.external .zone) with scan.state := .suspect }, .zone, [],
       by decide +kernel⟩,
   ⟨{ sharing.scanning .refLow with scan.refHigh := 3879 }, [], 193, true, by decide +kernel⟩,
   ⟨sharing.scanning .refHigh, [], by decide +kernel⟩⟩

theorem witness_InputSampleAccepts :
    (∃ (s : State) (r : InputRole) (pinHigh active : Bool), s.powered = true ∧
      (s.input r).timer.isSome = true ∧ (s.accepted r = .active ∨ s.accepted r = .inactive) ∧
      (active = (if (s.cfg.inputs.get r).polarity = .activeClosed then !pinHigh else pinHigh))) ∧
    (∃ (s : State) (r : InputRole) (pinHigh active : Bool) (n : Nat), s.powered = true ∧
      (s.input r).timer.isSome = true ∧ s.accepted r = .unsettled ∧
      (active = (if (s.cfg.inputs.get r).polarity = .activeClosed then !pinHigh else pinHigh)) ∧
      (n = (if (s.input r).candidate = some active then (s.input r).streak + 1 else 1))) :=
  ⟨⟨sharing, .hp1, false, true, by decide +kernel⟩,
   ⟨sharing.accept .occ .unsettled, .occ, true, false, 1, by decide +kernel⟩⟩

theorem witness_SafetyInputsAct :
    (∃ (s : State) (pinHigh : Bool), s.powered = true ∧ (s.input .hp1).timer.isSome = true ∧
      s.accepted .hp1 = .inactive ∧ 2 ≤ (s.input .hp1).streak ∧
      activeLevel (s.cfg.inputs.get .hp1).polarity pinHigh = true) ∧
    (∃ (s : State) (pinHigh : Bool), s.powered = true ∧ (s.input .smoke).timer.isSome = true ∧
      s.accepted .smoke = .inactive ∧ 2 ≤ (s.input .smoke).streak ∧
      activeLevel (s.cfg.inputs.get .smoke).polarity pinHigh = true ∧
      s.station.state.working = true) ∧
    (∃ (s : State) (n : Circuit) (r : InputRole) (cause : Category) (pinHigh : Bool),
      ((n = .one ∧ r = .hp1 ∧ cause = .hp1) ∨ (n = .two ∧ r = .hp2 ∧ cause = .hp2)) ∧
      s.accepts r pinHigh true = true) ∧
    (∃ (s : State) (pinHigh : Bool),
      (s.accepts .filter pinHigh true = true ∨ s.settles .filter pinHigh true = true)) ∧
    (∃ (s : State) (pinHigh active : Bool) (c h : Int), s.accepts .occ pinHigh active = true ∧
      s.station.state ≠ .config ∧
      (c = s.cfg.coolSetpoint + (if active = true then 0 else s.cfg.setback)) ∧
      (h = s.cfg.heatSetpoint - (if active = true then 0 else s.cfg.setback))) ∧
    (∃ (s : State) (pinHigh : Bool), s.settles .smoke pinHigh true = true) ∧
    (∃ (s : State) (r : InputRole) (pinHigh active : Bool), s.settles r pinHigh active = true ∧
      (active = false ∨ (r ≠ .smoke ∧ r ≠ .filter))) :=
  ⟨⟨sharing.streakOf .hp1 2, false, by decide +kernel⟩,
   ⟨sharing.streakOf .smoke 2, false, by decide +kernel⟩,
   ⟨(sharing.slotIn .c2 .runFree).streakOf .hp2 2, .two, .hp2, .hp2, false, by decide +kernel⟩,
   ⟨sharing.setInput .filter ⟨.unsettled, some true, 2, some 20⟩, false, by decide +kernel⟩,
   ⟨sharing.streakOf .occ 2, true, false, 270, 180, by decide +kernel⟩,
   ⟨sharing.setInput .smoke ⟨.unsettled, some true, 2, some 20⟩, false, by decide +kernel⟩,
   ⟨sharing.setInput .occ ⟨.unsettled, some true, 2, some 20⟩, .occ, false, true,
       by decide +kernel⟩⟩

theorem witness_PinsFollowStateAlways :
    ∃ (s t : State), s.pinsFollow = true ∧ step s = .next t :=
  ⟨{ sharing.drivePins with pending := [.secondsTick] }, { sharing.drivePins with
    pending := [], seconds := 1 }, by decide +kernel, rfl⟩

theorem witness_FaultLawAlways :
    ∃ (s t : State), s.fault.uncapturedLaw = true ∧ s.fault.recordApart = true ∧ step s = .next t :=
  ⟨{ sharing with pending := [.secondsTick] }, { sharing with pending := [], seconds := 1 },
    by decide +kernel, by decide +kernel, rfl⟩

theorem witness_CauseAndAdmissionLawsAlways :
    (∃ (s t : State), s.station.causeLaw = true ∧ step s = .next t) ∧
    (∃ (s t : State), s.adm.law = true ∧ step s = .next t) :=
  ⟨⟨{ sharing with pending := [.secondsTick] }, { sharing with pending := [], seconds := 1 },
    by decide +kernel, rfl⟩,
   ⟨{ sharing with pending := [.secondsTick] }, { sharing with pending := [], seconds := 1 },
       by decide +kernel, rfl⟩⟩

theorem witness_QueueAndTableLawsAlways :
    (∃ (s t : State), s.link.queueLaw = true ∧ step s = .next t) ∧
    (∃ (s t : State), s.table.claimLaw = true ∧ s.ceilingLaw = true ∧ step s = .next t) :=
  ⟨⟨{ sharing with pending := [.secondsTick] }, { sharing with pending := [], seconds := 1 },
    by decide +kernel, rfl⟩,
   ⟨{ sharing with pending := [.secondsTick] }, { sharing with pending := [], seconds := 1 },
       by decide +kernel, by decide +kernel, rfl⟩⟩

theorem witness_NeverBothSides :
    (∃ (s t : State), s.oneSide = true ∧ step s = .next t) ∧
    (∃ (s : State) (i j : Slot), s.interlocks i = true ∧ sideOf j ≠ sideOf i) ∧
    (∃ (s : State) (i : Slot), s.select.stage.presented = some i) ∧
    (∃ (s : State) (i : Slot), s.stillWanted i = true) :=
  ⟨⟨{ sharing with pending := [.secondsTick] }, { sharing with pending := [], seconds := 1 },
    by decide +kernel, rfl⟩,
   ⟨sharing, .c1, .h2, by decide +kernel⟩,
   ⟨sharing, .c1, by decide +kernel⟩,
   ⟨sharing, .c1, by decide +kernel⟩⟩

theorem witness_LoadLawAlways :
    ∃ (s t : State), s.adm.law = true ∧ s.orderLaw = true ∧ s.claimLaw = true ∧
      s.loadLaw = true ∧ step s = .next t :=
  ⟨{ sharing with pending := [.secondsTick] }, { sharing with pending := [], seconds := 1 },
    by decide +kernel, by decide +kernel, by decide +kernel, by decide +kernel, rfl⟩

theorem witness_AirAndRecordAlways :
    ∃ (s t : State), s.airLaw = true ∧ s.recordLaw ∧ step s = .next t :=
  ⟨{ sharing with pending := [.secondsTick] }, { sharing with pending := [], seconds := 1 },
    by decide +kernel, cfgA_valid, rfl⟩

theorem witness_FramesReadBackAsSent :
    (∃ (f : Frame), 1 ≤ f.station ∧ f.station ≤ 48 ∧ f.identity.extractLsb' 28 4 = 1 ∧
      (∀ r : StateFrame, f.body = .state r → r.report.identity = f.identity ∧
        r.report.stationState < 256 ∧ r.report.unitMode < 256 ∧ r.report.level < 256 ∧
        r.report.staged < 65536 ∧ r.report.fan < 65536 ∧ r.report.cap < 65536 ∧ r.report.ceiling <
        65536 ∧ r.report.offer < 65536 ∧ (∀ v ∈ r.report.spaceTemp, -32768 < v ∧ v < 32768) ∧ ∀ c
        ∈ r.claim, c.serial < 256 ∧ c.slotCode < 256 ∧ c.increment < 65536 ∧ c.level < 256 ∧
        c.intended < 256) ∧ (∀ c : ShedCall, f.body = .shed c → c.level < 256 ∧ c.needed < 65536)) ∧
    (∃ (record : List Byte), record.length = 70) ∧
    (∃ (code : Byte) (payload : List Byte), payload.length ≤ 254 ∧
      requestLength code.toNat ≠ some (1 + payload.length)) :=
  ⟨⟨stateOf 48, by decide, by decide, by decide, fun r h => by cases h; decide, fun c h => nomatch
    h⟩,
   ⟨recA, by decide⟩,
   ⟨0x77, [], by decide +kernel⟩⟩

end Sys2Proof.Machine

end
end

/-! # The queue and the factory serial

No command writes the queue (log entry 3) or the serial fixed at manufacture (R28), and every
command answers a next state (log entry 4). The frames of Laws/ are carried on from the shared operations to
the handlers, from these to the wrappers, and from these to each command. -/

namespace Sys2Proof.Machine

/-! ## A step -/

theorem step_of_pending_cons (c : Instr) (rest : List Instr) (s : State) :
    step { s with pending := c :: rest } = exec c { s with pending := rest } := rfl

theorem step_of_pending_nil {s : State} (h : s.pending = []) : step s = .next s := by
  unfold step
  rw [h]

/-- Settles O1: `step` looks at the front of the queue alone. -/
theorem stepRunsFrontCommand : Obligations.StepRunsFrontCommand :=
  ⟨step_of_pending_cons, fun _ => step_of_pending_nil⟩

/-! ## The frame of the queue and the serial -/

/-- `t` has the queue and the factory serial of `s`. -/
structure State.SameQueueSerial (s t : State) : Prop where
  pending : t.pending = s.pending
  serial : t.serial = s.serial

theorem State.SameQueueSerial.refl (s : State) : s.SameQueueSerial s := ⟨rfl, rfl⟩

theorem State.SameQueueSerial.trans {a b c : State} (h : a.SameQueueSerial b)
    (k : b.SameQueueSerial c) : a.SameQueueSerial c :=
  ⟨k.pending.trans h.pending, k.serial.trans h.serial⟩

/-- The frame from `a` of an operation that starts from `b`, which is `a` but for other fields. -/
theorem State.SameQueueSerial.after {a b c : State} (h : b.SameQueueSerial c)
    (hp : b.pending = a.pending) (hs : b.serial = a.serial) : a.SameQueueSerial c :=
  .trans ⟨hp, hs⟩ h

theorem State.SameQueueSerial.answer {s t : State} (h : s.SameQueueSerial t) (code : Nat)
    (result : ServiceResult) (payload : List Byte) :
    s.SameQueueSerial (t.answer code result payload) := ⟨h.pending, h.serial⟩

theorem State.SameQueueSerial.drivePins {s t : State} (h : s.SameQueueSerial t) :
    s.SameQueueSerial t.drivePins := ⟨h.pending, h.serial⟩

theorem State.SameQueueSerial.serveLink {s t : State} (h : s.SameQueueSerial t) :
    s.SameQueueSerial t.serveLink := ⟨h.pending, h.serial⟩

theorem State.stationFrame.sameQueueSerial {s t : State} (h : s.stationFrame t) :
    s.SameQueueSerial t :=
  ⟨by rw [h], by rw [h]⟩

theorem State.stageFrame.sameQueueSerial {s t : State} (h : s.stageFrame t) :
    s.SameQueueSerial t := h.station.sameQueueSerial

theorem State.SameQueueSerial.settleInto {s t : State} (h : s.SameQueueSerial t) (before : State) :
    s.SameQueueSerial (t.settleInto before) :=
  h.trans (State.settleInto_frame t before).sameQueueSerial

/-! ## The Stage Controller's handling of inputs, sensors and timers -/

theorem State.coilDelivered_frame (s : State) (n : Circuit) : s.stageFrame (s.coilDelivered n) := by
  unfold State.coilDelivered
  split
  · split
    · exact State.testFreeze_frame s n
    · exact ⟨rfl, rfl⟩
  · exact ⟨rfl, rfl⟩

theorem State.fanProveOn_frame (s : State) : s.stageFrame s.fanProveOn := by
  unfold State.fanProveOn
  split <;> exact ⟨rfl, rfl⟩

theorem State.fanProveOff_frame (s : State) : s.stageFrame s.fanProveOff := by
  unfold State.fanProveOff
  split <;> exact ⟨rfl, rfl⟩

theorem State.highPressure_frame (s : State) (n : Circuit) (cause : Category) :
    s.stageFrame (s.highPressure n cause) := by
  unfold State.highPressure
  split
  · exact State.trip_frame ..
  · exact State.raise_frame ..

theorem State.lowPressure_frame (s : State) (n : Circuit) (cause : Category) :
    s.stageFrame (s.lowPressure n cause) := by
  unfold State.lowPressure
  split
  · exact State.trip_frame ..
  · exact State.trip_frame ..
  · exact State.stageFrame_refl s

theorem State.proveHeat_frame (s : State) (i : Slot) : s.stageFrame (s.proveHeat i) := by
  unfold State.proveHeat
  split
  · exact State.setSlot_frame ..
  · exact State.stageFrame_refl s

theorem State.losesHeatProve_frame (s : State) (i : Slot) : s.stageFrame (s.losesHeatProve i) := by
  unfold State.losesHeatProve
  split
  · exact State.trip_frame ..
  · exact State.trip_frame ..
  · exact State.stageFrame_refl s

/-- A transition in the frame, handed on, is in the frame. -/
theorem State.stageFrame.stagesMoved {s t : State} (h : s.stageFrame t) (before : State) :
    s.stageFrame (t.stagesMoved before) :=
  State.stageFrame_trans h (State.stagesMoved_frame t before)

theorem State.stageActivated_frame (s : State) (r : InputRole) :
    s.stageFrame (s.stageActivated r) := by
  cases r with
  | fanProve => exact s.fanProveOn_frame
  | hp1 => exact (s.highPressure_frame .one .hp1).stagesMoved s
  | hp2 => exact (s.highPressure_frame .two .hp2).stagesMoved s
  | lp1 => exact (s.lowPressure_frame .one .lp1).stagesMoved s
  | lp2 => exact (s.lowPressure_frame .two .lp2).stagesMoved s
  | heatProve => exact State.moveAll_frame _ State.proveHeat_frame _ s
  | occ | smoke | filter => exact State.stageFrame_refl s

theorem State.stageDeactivated_frame (s : State) (r : InputRole) :
    s.stageFrame (s.stageDeactivated r) := by
  cases r with
  | fanProve => exact s.fanProveOff_frame
  | heatProve => exact State.moveAll_frame _ State.losesHeatProve_frame _ s
  | occ | smoke | filter | hp1 | hp2 | lp1 | lp2 => exact State.stageFrame_refl s

theorem State.failFanProof_frame (s : State) : s.stageFrame s.failFanProof := by
  unfold State.failFanProof
  refine State.stageFrame_trans ?_ (State.raise_frame _ .fanProve)
  refine State.stageFrame_trans ?_ (State.moveAll_frame _ State.stopSlot_frame allSlots _)
  exact ⟨rfl, rfl⟩

theorem State.freeSlot_frame (s : State) (i : Slot) : s.stageFrame (s.freeSlot i) :=
  State.stageFrame_trans (State.stageFrame_trans (State.stageFrame_trans
    (State.setSlot_frame s i _) (State.reportMove_frame _ s))
    (State.moveEach_frame _ State.stopSlot_frame _ _)) (State.serveWanted_frame 4 _ _)

/-! ## The Admission Unit's settle -/

theorem State.closeClaim_frame (s : State) : s.stageFrame s.closeClaim :=
  State.stageFrame_trans ⟨rfl, rfl⟩ (State.requestState_frame _ false)

theorem State.settleClaim_frame (s : State) (c : OpenClaim) : s.stageFrame (s.settleClaim c) := by
  have ready : s.stageFrame (s.closeClaim.readySlot c.slot) :=
    State.stageFrame_trans s.closeClaim_frame (State.setSlot_frame _ c.slot _)
  unfold State.settleClaim
  split
  · exact ready.stagesMoved s
  · split
    · exact (State.stageFrame_trans s.closeClaim_frame (State.grant_frame ..)).stagesMoved s
    · exact (State.stageFrame_trans ready (State.deny_frame ..)).stagesMoved s

/-! ## The Sensor Scanner -/

theorem State.heatLimit_frame (s : State) : s.stageFrame s.heatLimit := by
  unfold State.heatLimit
  split
  · split
    · exact State.moveAll_frame _ (fun s i => s.trip_frame i .heatLimit) _ s
    · exact State.stageFrame_refl s
  · exact State.stageFrame_refl s

theorem State.deliverResult_frame (s : State) (ch : Channel) :
    s.stageFrame (s.deliverResult ch) := by
  unfold State.deliverResult
  split
  · exact s.coilDelivered_frame _
  · dsimp only
    split
    · exact State.stageFrame_trans (s.evaluate_frame .plain) (State.heatLimit_frame _)
    · exact s.evaluate_frame .plain

theorem State.deliverChange_frame (s : State) (ch : Channel) :
    s.stageFrame (s.deliverChange ch) := by
  unfold State.deliverChange
  split
  · exact s.coilDelivered_frame _
  · exact s.evaluate_frame .plain

theorem State.deliverChanges_frame (s before : State) : s.stageFrame (s.deliverChanges before) := by
  refine State.foldl_frame _ (fun s ch => ?_) allChannels s
  split
  · exact State.stageFrame_refl s
  · exact s.deliverChange_frame ch

theorem State.enterSuspect_sameQueueSerial (s : State) : s.SameQueueSerial s.enterSuspect :=
  .trans (b := ({ s with scan.state := .suspect } : State).mapSensors Sensor.suspect) ⟨rfl, rfl⟩
    (State.stageFrame_trans (State.raise_frame _ .refCheck)
      (State.deliverChanges_frame _ s)).sameQueueSerial

theorem State.enterNormal_sameQueueSerial (s : State) : s.SameQueueSerial s.enterNormal :=
  .trans (b := ({ s with scan.state := .normal } : State).mapSensors Sensor.renew) ⟨rfl, rfl⟩
    (State.deliverChanges_frame _ s).sameQueueSerial

theorem State.referenceCheck_sameQueueSerial (s : State) : s.SameQueueSerial s.referenceCheck := by
  unfold State.referenceCheck
  dsimp only
  split
  · split
    · exact (State.enterSuspect_sameQueueSerial _).after rfl rfl
    · exact ⟨rfl, rfl⟩
  · split
    · exact (State.enterNormal_sameQueueSerial _).after rfl rfl
    · exact ⟨rfl, rfl⟩

theorem State.externalComplete_sameQueueSerial (s : State) (ch : Channel) (code : BitVec 12) :
    s.SameQueueSerial (s.externalComplete ch code) := by
  unfold State.externalComplete
  dsimp only
  split
  · exact .refl s
  · split
    · exact ⟨rfl, rfl⟩
    · refine .trans ?_ (State.deliverResult_frame _ ch).sameQueueSerial
      split
      · exact (State.raise_frame _ ch.category).sameQueueSerial.after rfl rfl
      · exact ⟨rfl, rfl⟩

theorem State.complete_sameQueueSerial (s : State) (c : Conversion) (code : BitVec 12) :
    s.SameQueueSerial (s.complete c code) := by
  cases c with
  | refHigh => exact ⟨rfl, rfl⟩
  | refLow => exact (State.referenceCheck_sameQueueSerial _).after rfl rfl
  | external ch => exact s.externalComplete_sameQueueSerial ch code

/-! ## Station control -/

theorem State.smokeCleared_frame (s : State) : s.stationFrame s.smokeCleared := by
  unfold State.smokeCleared
  split
  · exact s.leaveShutdown_frame
  · exact State.stationFrame_refl s

theorem State.dropReported_frame (s : State) : s.stationFrame s.dropReported := by
  unfold State.dropReported
  split
  · refine State.stationFrame_trans ?_ (State.raise_frame _ .linkTx).station
    cases s.station.state with
    | sharing => exact s.enterIsolated_frame .transmit
    | isolated =>
      dsimp only
      split <;> rfl
    | config | joining | solo | shutdown | left => exact State.stationFrame_refl s
  · exact State.stationFrame_refl s

theorem State.duplicateFound_frame (s : State) : s.stationFrame s.duplicateFound := by
  have raised {t : State} (h : s.stationFrame t) : s.stationFrame (t.raise .duplicate) :=
    State.stationFrame_trans h (State.raise_frame t .duplicate).station
  have isolated (station : StationCtl) :
      s.stationFrame (State.enterIsolated { s with station := station } .duplicate) :=
    State.stationFrame_trans (b := { s with station := station }) rfl
      (State.enterIsolated_frame _ .duplicate)
  unfold State.duplicateFound
  cases s.station.state with
  | joining | sharing | solo => exact raised (isolated _)
  | isolated | shutdown => exact raised rfl
  | left | config => exact State.stationFrame_refl s

/-- JOINING is entered with the record, the table and the stages set afresh. -/
theorem State.enterJoining_sameQueueSerial (s : State) (cfg : ConfigRecord) :
    s.SameQueueSerial (s.enterJoining cfg) :=
  (State.stageFrame_trans (State.requestState_frame _ true)
    (State.evaluate_frame _ .plain)).sameQueueSerial.after rfl rfl

theorem State.doRestart_sameQueueSerial (s : State) : s.SameQueueSerial s.doRestart := by
  unfold State.doRestart
  dsimp only
  split
  · exact (State.enterJoining_sameQueueSerial _ _).after rfl rfl
  · exact ⟨rfl, rfl⟩

/-! ## Input events -/

theorem State.modeHears_frame (s : State) (r : InputRole) : s.stageFrame (s.modeHears r) := by
  unfold State.modeHears
  split
  · exact s.evaluate_frame .plain
  · exact State.stageFrame_refl s

theorem State.raiseInput_frame (s : State) (r : InputRole) (e : InputEvent) :
    s.stageFrame (s.raiseInput r e) := by
  unfold State.raiseInput
  split
  · split
    · exact State.raise_frame ..
    · exact State.stageFrame_refl s
  · exact State.stageFrame_refl s

theorem State.deliverInput_frame (s : State) (r : InputRole) (e : InputEvent) :
    s.stationFrame (s.deliverInput r e) := by
  have on : s.stationFrame ((s.stageActivated r).modeHears r) :=
    (State.stageFrame_trans (s.stageActivated_frame r) (State.modeHears_frame _ r)).station
  have off : s.stationFrame ((s.stageDeactivated r).modeHears r) :=
    (State.stageFrame_trans (s.stageDeactivated_frame r) (State.modeHears_frame _ r)).station
  cases e with
  | none => exact State.stationFrame_refl s
  | activated =>
    simp only [State.deliverInput]
    split
    · exact State.stationFrame_trans on (State.smokeActive_frame _)
    · exact on
  | deactivated =>
    simp only [State.deliverInput]
    split
    · exact State.stationFrame_trans off (State.smokeCleared_frame _)
    · exact off
  | settled active =>
    simp only [State.deliverInput]
    split
    · exact s.smokeActive_frame
    · exact State.stationFrame_refl s

theorem State.sampleInput_sameQueueSerial (s : State) (r : InputRole) (pinHigh : Bool) :
    s.SameQueueSerial (s.sampleInput r pinHigh) :=
  (State.deliverInput_frame _ r _).sameQueueSerial.after rfl rfl

/-! ## Frames of other stations -/

theorem State.setEntry_sameQueueSerial (s : State) (n : Nat) (e : Entry) :
    s.SameQueueSerial (s.setEntry n e) := ⟨s.setEntry_pending n e, s.setEntry_serial n e⟩

theorem State.recomputeCeiling_sameQueueSerial (s : State) :
    s.SameQueueSerial s.recomputeCeiling := by
  unfold State.recomputeCeiling
  dsimp only
  split
  · exact (State.raise_frame _ .ceilingMismatch).sameQueueSerial.after rfl rfl
  · exact ⟨rfl, rfl⟩

theorem State.entryChanged_frame (s : State) (marked : Bool) :
    s.stageFrame (s.entryChanged marked) := by
  unfold State.entryChanged
  split
  · exact s.evaluate_frame .neighbourUpdate
  · exact State.stageFrame_refl s

/-- An entry written, with the ceiling and the neighbour update it brings. -/
theorem State.entryTaken_sameQueueSerial (s : State) (n : Nat) (e : Entry) (marked : Bool) :
    s.SameQueueSerial (((s.setEntry n e).recomputeCeiling).entryChanged marked) :=
  ((s.setEntry_sameQueueSerial n e).trans (State.recomputeCeiling_sameQueueSerial _)).trans
    (State.entryChanged_frame _ marked).sameQueueSerial

/-- A frame of another station, completed, at the receiver and at station control. -/
theorem State.hearFrame_frame (s : State) :
    s.stationFrame (State.hearOther { s with link := s.link.complete }) :=
  State.stationFrame_trans (b := { s with link := s.link.complete }) rfl (State.hearOther_frame _)

theorem State.takeState_sameQueueSerial (s : State) (n : Nat) (f : StateFrame) :
    s.SameQueueSerial (s.takeState n f) := by
  have taken (e : Entry) (marked : Bool) :=
    s.hearFrame_frame.sameQueueSerial.trans (State.entryTaken_sameQueueSerial _ n e marked)
  unfold State.takeState
  dsimp only
  split
  · exact (taken _ _).trans (State.requestState_frame _ false).sameQueueSerial
  · exact taken _ _

theorem State.takeLeave_sameQueueSerial (s : State) (n : Nat) :
    s.SameQueueSerial (s.takeLeave n) := by
  unfold State.takeLeave
  dsimp only
  split
  · exact s.hearFrame_frame.sameQueueSerial
  · exact s.hearFrame_frame.sameQueueSerial.trans (State.entryTaken_sameQueueSerial _ n _ _)

theorem State.respondShed_frame (s : State) (caller : Nat) (call : ShedCall) :
    s.stageFrame (s.respondShed caller call) := by
  unfold State.respondShed
  dsimp only
  split
  · split
    · exact (s.stopSlot_frame _).stagesMoved s
    · exact State.stageFrame_refl s
  · exact State.stageFrame_refl s

theorem State.takeShed_frame (s : State) (n : Nat) (call : ShedCall) :
    s.stationFrame (s.takeShed n call) := by
  unfold State.takeShed
  dsimp only
  split
  · exact State.stationFrame_trans s.hearFrame_frame (State.respondShed_frame _ n call).station
  · exact s.hearFrame_frame

/-! ## Ends of own attempts -/

theorem State.failAttempt_frame (s : State) (w : WireFrame) : s.stationFrame (s.failAttempt w) := by
  unfold State.failAttempt
  dsimp only
  split
  · rfl
  · split
    · rfl
    · exact State.stationFrame_trans (State.stationFrame_trans
        (State.stationFrame_own s s.station _ s.adm) (State.dropReported_frame _)) rfl

theorem State.sendFrame_frame (s : State) (w : WireFrame) : s.stationFrame (s.sendFrame w) :=
  State.stationFrame_trans (State.stationFrame_own s s.station _ s.adm)
    (State.returnToSharing_frame _ _)

/-! ## Service requests -/

theorem State.raiseAll_frame (s : State) (cs : List Category) : s.stageFrame (s.raiseAll cs) :=
  State.foldl_frame _ State.raise_frame cs s

theorem State.clearFaults_frame (s : State) (set : BitVec 24) :
    s.stageFrame (s.clearFaults set) := by
  unfold State.clearFaults
  split
  · exact State.stageFrame_refl s
  · exact State.stageFrame_trans ⟨rfl, rfl⟩ (State.raiseAll_frame _ _)

theorem State.unlockSlot_frame (s : State) (i : Slot) : s.stageFrame (s.unlockSlot i) :=
  State.stageFrame_trans ((s.setSlot_frame i _).stagesMoved s) (State.settleInto_frame _ s)

/-! ## Completion -/

/-- The outcome is a next state with the queue and the factory serial of `s`. -/
def State.Completes (s : State) (o : Host.Outcome State Fault Refusal) : Prop :=
  ∃ t, o = .next t ∧ s.SameQueueSerial t

theorem State.completes_next {s t : State} (h : s.SameQueueSerial t) : s.Completes (.next t) :=
  ⟨t, rfl, h⟩

/-- A command that changes nothing while its event cannot occur. -/
theorem State.completes_ite {s t : State} (b : Bool) (h : s.SameQueueSerial t) :
    s.Completes (.next (if b then t else s)) := by
  cases b
  · exact State.completes_next (.refl s)
  · exact State.completes_next h

theorem State.event_completes {s : State} {occurs : Bool} {effect : State → State}
    (h : s.SameQueueSerial (effect s)) : s.Completes (s.event occurs effect) :=
  State.completes_ite _ (h.settleInto s)

theorem State.eventThen_completes {s : State} {occurs : Bool} {effect raise : State → State}
    (h : s.SameQueueSerial (effect s)) (hr : ∀ t : State, t.SameQueueSerial (raise t)) :
    s.Completes (s.eventThen occurs effect raise) :=
  State.completes_ite _
    ((h.trans (State.settleStarts_frame _ s).sameQueueSerial).trans (hr _)).drivePins

theorem State.innerEvent_completes {s : State} {occurs : Bool} {effect : State → State}
    (h : s.SameQueueSerial (effect s)) : s.Completes (s.innerEvent occurs effect) :=
  State.completes_ite _ h

theorem State.quietEvent_completes {s : State} {occurs : Bool} {effect : State → State}
    (h : s.SameQueueSerial (effect s)) : s.Completes (s.quietEvent occurs effect) :=
  State.completes_ite _ h.drivePins

theorem State.request_completes {s : State} {handle : State → State}
    (h : ∀ t : State, t.SameQueueSerial (handle t)) : s.Completes (s.request handle) := by
  refine State.completes_ite _ ?_
  split
  · exact ⟨rfl, rfl⟩
  · exact (h _).after rfl rfl

/-! ### The requests -/

theorem execConfigure_completes (record : List Byte) (s : State) :
    s.Completes (execConfigure record s) := by
  refine State.request_completes fun s => ?_
  repeat' split
  all_goals exact ⟨rfl, rfl⟩

theorem execStart_completes (s : State) : s.Completes (execStart s) := by
  refine State.request_completes fun s => ?_
  split
  · exact ((s.enterJoining_sameQueueSerial _).settleInto s).answer ..
  · exact ⟨rfl, rfl⟩

theorem execReadEntry_completes (n : Byte) (s : State) : s.Completes (execReadEntry n s) := by
  refine State.request_completes fun s => ?_
  split <;> exact ⟨rfl, rfl⟩

theorem execClear_completes (set : BitVec 24) (s : State) : s.Completes (execClear set s) := by
  refine State.request_completes fun s => ?_
  split
  · exact ⟨rfl, rfl⟩
  · exact (s.clearFaults_frame set).sameQueueSerial.drivePins.answer ..

theorem execUnlock_completes (code : Byte) (s : State) : s.Completes (execUnlock code s) := by
  refine State.request_completes fun s => ?_
  split
  · exact ⟨rfl, rfl⟩
  · split
    · split
      · exact (s.unlockSlot_frame _).sameQueueSerial.answer ..
      · exact ⟨rfl, rfl⟩
    · exact ⟨rfl, rfl⟩

theorem execLeave_completes (s : State) : s.Completes (execLeave s) := by
  refine State.request_completes fun s => ?_
  have left := (s.enterLeft_frame.sameQueueSerial.settleInto s).answer 0x31 .ok []
  cases s.station.state with
  | sharing | isolated | solo | shutdown => exact left
  | config | joining | left => exact ⟨rfl, rfl⟩

theorem execRollcall_completes (s : State) : s.Completes (execRollcall s) := by
  refine State.request_completes fun s => ?_
  split
  · exact (s.requestState_frame true).sameQueueSerial.answer ..
  · exact ⟨rfl, rfl⟩

theorem execLinkTest_completes (mask : BitVec 16) (count : Byte) (s : State) :
    s.Completes (execLinkTest mask count s) := by
  refine State.request_completes fun s => ?_
  repeat' split
  all_goals exact ⟨rfl, rfl⟩

theorem execUnknownRequest_completes (code : Byte) (payload : List Byte) (s : State) :
    s.Completes (execUnknownRequest code payload s) := by
  unfold execUnknownRequest
  split
  · exact State.completes_next (.refl s)
  · exact State.request_completes fun s => ⟨rfl, rfl⟩

theorem execServiceResponseEnd_completes (s : State) : s.Completes (execServiceResponseEnd s) := by
  unfold execServiceResponseEnd
  split
  · exact State.completes_next (.refl s)
  · split
    · exact State.event_completes ((State.doRestart_sameQueueSerial _).after rfl rfl)
    · exact State.innerEvent_completes ⟨rfl, rfl⟩

/-! ### The roof link -/

theorem execStateReceived_completes (frame : List Byte) (s : State) :
    s.Completes (execStateReceived frame s) := by
  unfold execStateReceived
  split
  · exact State.event_completes (s.takeState_sameQueueSerial _ _)
  · exact State.completes_next (.refl s)

theorem execShedReceived_completes (frame : List Byte) (s : State) :
    s.Completes (execShedReceived frame s) := by
  unfold execShedReceived
  split
  · exact State.event_completes (s.takeShed_frame _ _).sameQueueSerial
  · exact State.completes_next (.refl s)

theorem execLeaveReceived_completes (frame : List Byte) (s : State) :
    s.Completes (execLeaveReceived frame s) := by
  unfold execLeaveReceived
  split
  · exact State.event_completes (s.takeLeave_sameQueueSerial _)
  · exact State.completes_next (.refl s)

theorem execOwnEcho_completes (frame : List Byte) (s : State) :
    s.Completes (execOwnEcho frame s) := by
  unfold execOwnEcho
  split
  · exact State.innerEvent_completes ⟨rfl, rfl⟩
  · exact State.completes_next (.refl s)

theorem execDuplicateDetected_completes (frame : List Byte) (s : State) :
    s.Completes (execDuplicateDetected frame s) := by
  unfold execDuplicateDetected
  split
  · exact State.event_completes
      ((State.duplicateFound_frame _).sameQueueSerial.after rfl rfl)
  · exact State.completes_next (.refl s)

theorem execAttemptFailed_completes (cause : ReadBackFailure) (s : State) :
    s.Completes (execAttemptFailed cause s) := by
  unfold execAttemptFailed
  split
  · exact State.event_completes (s.failAttempt_frame _).sameQueueSerial
  · exact State.completes_next (.refl s)

theorem execFrameSent_completes (s : State) : s.Completes (execFrameSent s) := by
  unfold execFrameSent
  split
  · exact State.event_completes (s.sendFrame_frame _).sameQueueSerial
  · exact State.completes_next (.refl s)

/-! ### Timers and conversions -/

theorem execSilenceExpiry_completes (s : State) : s.Completes (execSilenceExpiry s) := by
  refine State.event_completes ?_
  dsimp only
  split
  · exact (State.enterIsolated_frame _ .silent).sameQueueSerial.after rfl rfl
  · exact ⟨rfl, rfl⟩

theorem execSettleExpiry_completes (s : State) : s.Completes (execSettleExpiry s) := by
  unfold execSettleExpiry
  split
  · exact State.event_completes (s.settleClaim_frame _).sameQueueSerial
  · exact State.completes_next (.refl s)

theorem execFanProofExpiry_completes (s : State) : s.Completes (execFanProofExpiry s) := by
  refine State.event_completes ?_
  split
  · split
    · exact ⟨rfl, rfl⟩
    · exact s.failFanProof_frame.sameQueueSerial
  · exact s.failFanProof_frame.sameQueueSerial
  all_goals exact .refl s

theorem execProveExpiry_completes (i : Slot) (s : State) : s.Completes (execProveExpiry i s) := by
  refine State.event_completes ?_
  split
  · exact ((s.trip_frame i _).stagesMoved s).sameQueueSerial
  · exact ((s.setSlot_frame i _).stagesMoved s).sameQueueSerial

theorem execConversionComplete_completes (code : BitVec 12) (s : State) :
    s.Completes (execConversionComplete code s) := by
  unfold execConversionComplete
  split
  · exact State.event_completes ((State.complete_sameQueueSerial _ _ code).after rfl rfl)
  · exact State.completes_next (.refl s)

/-- Every command, in every state. -/
theorem exec_completes (c : Instr) (s : State) : s.Completes (exec c s) := by
  unfold exec
  cases c with
  | powerUp | supplyOutOfRange => exact State.completes_next ⟨rfl, rfl⟩
  | restart => exact State.event_completes s.doRestart_sameQueueSerial
  | joinExpiry =>
    refine State.event_completes ?_
    exact (State.joinDecision_frame _).sameQueueSerial.after rfl rfl
  | silenceExpiry => exact execSilenceExpiry_completes s
  -- Service requests
  | configure record => exact execConfigure_completes record s
  | start => exact execStart_completes s
  | readEntry n => exact execReadEntry_completes n s
  | readStatus | readFaults | serviceRestart => exact State.request_completes fun _ => ⟨rfl, rfl⟩
  | clear set => exact execClear_completes set s
  | unlock code => exact execUnlock_completes code s
  | leave => exact execLeave_completes s
  | rollcall => exact execRollcall_completes s
  | linkTest mask count => exact execLinkTest_completes mask count s
  | unknownRequest code payload => exact execUnknownRequest_completes code payload s
  | serviceResponseEnd => exact execServiceResponseEnd_completes s
  -- Frames and attempts
  | stateReceived frame => exact execStateReceived_completes frame s
  | shedReceived frame => exact execShedReceived_completes frame s
  | leaveReceived frame => exact execLeaveReceived_completes frame s
  | ownEcho frame => exact execOwnEcho_completes frame s
  | duplicateDetected frame => exact execDuplicateDetected_completes frame s
  | attemptFailed cause => exact execAttemptFailed_completes cause s
  | frameSent => exact execFrameSent_completes s
  | attemptBegin | cutOffFrameRelease => exact State.quietEvent_completes ⟨rfl, rfl⟩
  | reportTimerExpiry =>
    refine State.innerEvent_completes ?_
    exact (State.requestState_frame _ false).sameQueueSerial.after rfl rfl
  -- Entries of the roof table
  | freshnessExpiry n => exact State.event_completes (s.entryTaken_sameQueueSerial n _ _)
  | claimHoldExpiry n =>
    exact State.event_completes ((s.setEntry_sameQueueSerial n _).trans
      (State.entryChanged_frame _ _).sameQueueSerial)
  -- Timers of the Admission Unit and the Mode Logic
  | settleExpiry => exact execSettleExpiry_completes s
  | changeoverExpiry | offDelayExpiry | fullOpenExpiry | damperTimerExpiry =>
    refine State.event_completes ?_
    exact (State.evaluate_frame _ _).sameQueueSerial.after rfl rfl
  -- Timers of the Stage Controller
  | fanProofExpiry => exact execFanProofExpiry_completes s
  | proveExpiry i => exact execProveExpiry_completes i s
  | minRunExpiry i => exact State.event_completes (s.freeSlot_frame i).sameQueueSerial
  | minOffExpiry i | tripDelayExpiry i =>
    exact State.event_completes ((s.setSlot_frame i _).stagesMoved s).sameQueueSerial
  | freezeExpiry n =>
    refine State.event_completes ?_
    exact ((State.trip_frame _ _ _).stagesMoved s).sameQueueSerial.after rfl rfl
  -- Conversions and samples
  | conversionComplete code => exact execConversionComplete_completes code s
  | inputSample r pinHigh =>
    exact State.eventThen_completes (s.sampleInput_sameQueueSerial r pinHigh)
      fun t => (t.raiseInput_frame r _).sameQueueSerial
  -- Events that write their own block alone
  | holdoffExpiry | shedWaitExpiry | interStageExpiry => exact State.event_completes ⟨rfl, rfl⟩
  | secondsTick | requestDiscardedBusy | serviceFrameBadCrc | serviceFrameAbort | linkIdle
  | receiveAbort | frameRejected | backoffAbandoned | spacingExpiry | shedSpacingExpiry
  | pwmPeriodStart | scanTimerExpiry | frameStartCharacter | charactersAfterFrame
  | serviceStartCharacter | serviceLengthZero => exact State.innerEvent_completes ⟨rfl, rfl⟩

/-- Settles O2, command by command, from the frames of what each one is made of. -/
theorem everyCommandCompletes : Obligations.EveryCommandCompletes := by
  intro c s
  obtain ⟨t, ht, hframe⟩ := exec_completes c s
  exact ⟨t, ht, hframe.pending, hframe.serial⟩

end Sys2Proof.Machine

/-! # What a start decision comes to, and what is kept over it

The taking of a presented request (R70, R73 to R79) said once as the decisions it can end in, and the
way a property is carried through the selection, the decision and the reports that end every event. -/

namespace Sys2Proof.Machine

/-! ## The decisions -/

/-- The state in which the request is judged: the claim level and the headroom are noted (R71, R76). -/
def State.judged (s : State) (level : Nat) (headroom : Int) : State :=
  { s with adm.lastLevel := level, adm.headroom := headroom }

/-- R73 to R79: what the taking of the request for slot `i` can end in. A local grant keeps the staged
load within the fallback cap in ISOLATED. -/
inductive State.Decision (s : State) (i : Slot) : State → Prop where
  | claim (level : Nat) (headroom : Int) (sharing : s.station.state = .sharing) :
      State.Decision s i ((s.judged level headroom).openClaim i level)
  | shed (level : Nat) (headroom : Int) (needed : Nat) (sharing : s.station.state = .sharing) :
      State.Decision s i ((s.judged level headroom).callShed level needed)
  | denied (level : Nat) (headroom : Int) :
      State.Decision s i ((s.judged level headroom).deny level)
  | granted (level : Nat) (headroom : Int) (mode : Intended)
      (fits : s.station.state = .isolated → s.stagedLoad + s.increment i ≤ s.cfg.cap)
      (alone : s.station.state ≠ .sharing) :
      State.Decision s i ((s.judged level headroom).grant i mode)

theorem State.preCheck_decides (s : State) (i : Slot) (level : Nat)
    (h : s.station.state = .sharing) :
    s.Decision i (({ s with adm.lastLevel := level } : State).preCheck i level) := by
  unfold State.preCheck
  dsimp only
  split
  · exact .claim level _ h
  · split
    · exact .shed level _ _ h
    · exact .denied level _

theorem State.decideLocal_decides (s : State) (i : Slot) (level counted limit : Nat)
    (alone : s.station.state ≠ .sharing)
    (h : s.station.state = .isolated → counted = s.stagedLoad ∧ limit = s.cfg.cap) :
    s.Decision i (({ s with adm.lastLevel := level } : State).decideLocal i level counted limit) := by
  unfold State.decideLocal
  dsimp only
  split
  · rename_i fits
    refine .granted level _ _ (fun hi => ?_) alone
    obtain ⟨rfl, rfl⟩ := h hi
    exact fits
  · exact .denied level _

/-- The taking of a request leaves the state as it is, or decides the presented request of an IDLE unit
in a working state. -/
theorem State.takeRequest_decides (s : State) :
    s.takeRequest = s ∨ ∃ i, s.stage.presented = some i ∧ s.adm.state = .idle ∧
      s.station.state.working = true ∧ s.Decision i s.takeRequest := by
  unfold State.takeRequest
  split
  · exact .inl rfl
  · rename_i i hi
    split
    · rename_i ready
      cases hs : s.station.state with
      | sharing =>
        exact .inr ⟨i, hi, ready.1, rfl, s.preCheck_decides i _ hs⟩
      | isolated =>
        exact .inr ⟨i, hi, ready.1, rfl,
          s.decideLocal_decides i _ _ _ (by simp [hs]) fun _ => ⟨rfl, rfl⟩⟩
      | solo =>
        exact .inr ⟨i, hi, ready.1, rfl,
          s.decideLocal_decides i _ _ _ (by simp [hs]) fun h => by simp [hs] at h⟩
      | config | joining | shutdown | left => exact .inl rfl
    · exact .inl rfl

/-- Whether a slot can be selected does not depend on the request presented. -/
theorem State.selectable_select (s : State) (i : Slot) :
    s.select.selectable i = s.selectable i := rfl

theorem State.ready_of_selectable {s : State} {i : Slot} (h : s.selectable i = true) :
    s.stageState i = .ready := by
  simp only [State.selectable, Bool.and_eq_true, beq_iff_eq] at h
  exact h.1.1.1.2

/-! ## Keeping a property to the end of an event -/

/-- What the end of an event does to State beside evaluations and stops: the selection and the decision
of a request for a slot that qualifies. -/
structure State.KeepsStarts (P : State → Prop) : Prop extends State.Keeps P where
  select : ∀ s : State, P s → P s.select
  decide : ∀ (s t : State) (i : Slot), P s → s.selectable i = true → s.adm.state = .idle →
    s.station.state.working = true → s.Decision i t → P t

theorem State.stagesMoved_keeps {P : State → Prop} (k : State.Keeps P) (s before : State)
    (h : P s) : P (s.stagesMoved before) :=
  State.serveWanted_keeps k 4 _ _ (State.reportMove_keeps k s before h)

theorem State.entered_keeps {P : State → Prop} (k : State.Keeps P) (s before : State) (h : P s) :
    P (s.entered before) :=
  State.serveWanted_keeps k 4 _ _ (State.evaluateOnce_keeps k s .plain h)

theorem State.serveStarts_keeps {P : State → Prop} (k : State.KeepsStarts P) (s : State) (h : P s) :
    P s.serveStarts := by
  have taken : P s.select.takeRequest := by
    rcases s.select.takeRequest_decides with same | ⟨i, presented, idle, working, decision⟩
    · rw [same]
      exact k.select s h
    · exact k.decide _ _ i (k.select s h) (s.select_presented.1 i presented) idle working decision
  exact k.select _ (State.stagesMoved_keeps k.toKeeps _ _ taken)

theorem State.settleStarts_keeps {P : State → Prop} (k : State.KeepsStarts P) (s before : State)
    (h : P s) : P (s.settleStarts before) := by
  unfold State.settleStarts State.reportOffer
  split
  · exact State.serveStarts_keeps k s h
  · exact k.request _ (State.serveStarts_keeps k s h)

/-! ## The plant's operations as writes of the Stage Controller -/

theorem State.stopSlot_eq (s : State) (i : Slot) :
    s.stopSlot i = { s with stage := (s.stopSlot i).stage } := by
  unfold State.stopSlot; split <;> rfl

theorem State.unclaimSlot_eq (s : State) (i : Slot) :
    s.unclaimSlot i = { s with stage := (s.unclaimSlot i).stage } := by
  unfold State.unclaimSlot; split <;> rfl

theorem State.fanCommanded_eq (s : State) (on : Bool) :
    s.fanCommanded on = { s with stage := (s.fanCommanded on).stage } := by
  unfold State.fanCommanded
  repeat' split
  all_goals rfl

theorem State.testFreeze_eq (s : State) (n : Circuit) :
    s.testFreeze n = { s with stage := (s.testFreeze n).stage } := by
  unfold State.testFreeze
  repeat' split
  all_goals rfl

theorem State.testHeatProve_eq (s : State) (i : Slot) :
    s.testHeatProve i = { s with stage := (s.testHeatProve i).stage } := by
  unfold State.testHeatProve; split <;> rfl

theorem State.startSlot_eq (s : State) (i : Slot) :
    s.startSlot i = { s with stage := (s.startSlot i).stage } := by
  cases i <;> simp only [State.startSlot]
  · rw [State.testFreeze_eq]; rfl
  · rw [State.testFreeze_eq]; rfl
  · rw [State.testHeatProve_eq]; rfl
  · rw [State.testHeatProve_eq]; rfl

/-- The fan command reaches the fan proof alone. -/
theorem State.fanCommanded_stage (s : State) (on : Bool) :
    (s.fanCommanded on).stage.slots = s.stage.slots ∧
      (s.fanCommanded on).stage.order = s.stage.order := by
  unfold State.fanCommanded
  repeat' split
  all_goals exact ⟨rfl, rfl⟩

/-! ## Properties blind to the plant -/

/-- A property that looks at none of the Admission Unit, the Mode Logic and the Stage Controller, and
that requests of the transmit queue keep. -/
structure State.Blind (P : State → Prop) : Prop where
  plant : ∀ (s : State) (adm : Admission) (mode : ModeLogic) (stage : StageCtl), P s →
    P { s with adm := adm, mode := mode, stage := stage }
  request : ∀ (s : State) (roll : Bool), P s → P (s.requestState roll)
  shed : ∀ (s : State) (call : ShedCall), P s → P (s.requestShed call)

theorem State.Blind.stage {P : State → Prop} (b : State.Blind P) {s t : State} (h : P s)
    (e : t = { s with stage := t.stage }) : P t := by
  rw [e]
  exact b.plant s s.adm s.mode t.stage h

theorem State.Blind.keeps {P : State → Prop} (b : State.Blind P) : State.Keeps P where
  mode s m h := b.plant s s.adm m s.stage h
  denials s h := b.plant s { s.adm with denials := 0 } s.mode s.stage h
  fan s on h := b.stage h (s.fanCommanded_eq on)
  request s h := b.request s false h
  stop s i h := b.stage h (s.stopSlot_eq i)

theorem State.Blind.grantMode {P : State → Prop} (b : State.Blind P) (s : State) (m : Intended)
    (h : P s) : P (s.grantMode m) := by
  have set (u : UnitMode) : P (if s.mode.mode = u then s
      else State.requestState { s with mode.mode := u, mode.fullOpen := .stopped }) := by
    split
    · exact h
    · exact b.request _ false
        (b.plant s s.adm { s.mode with mode := u, fullOpen := .stopped } s.stage h)
  cases m with
  | none => exact h
  | cool => exact set .cool
  | heat => exact set .heat

theorem State.Blind.grant {P : State → Prop} (b : State.Blind P) (s : State) (i : Slot)
    (m : Intended) (h : P s) : P (s.grant i m) :=
  b.grantMode _ m (b.stage (b.plant s { s.adm with denials := 0 } s.mode
    { s.stage with presented := none } h) (State.startSlot_eq _ i))

theorem State.Blind.decision {P : State → Prop} (b : State.Blind P) {s t : State} {i : Slot}
    (h : P s) (d : s.Decision i t) : P t := by
  cases d with
  | claim => exact b.request _ false (b.plant s _ s.mode _ h)
  | shed => exact b.shed _ _ (b.plant s _ s.mode s.stage h)
  | denied => exact b.plant s _ s.mode s.stage h
  | granted level headroom mode => exact b.grant _ i mode (b.plant s _ s.mode s.stage h)

theorem State.Blind.keepsStarts {P : State → Prop} (b : State.Blind P) : State.KeepsStarts P where
  toKeeps := b.keeps
  select s h := b.plant s s.adm s.mode s.select.stage h
  decide _ _ _ h _ _ _ d := b.decision h d

end Sys2Proof.Machine

/-! # What every command keeps

A law of a state is shown once for the operations that write what it reads (station control, the
Admission Unit, the stages), and carried from these to every command. -/

namespace Sys2Proof.Machine

/-- `t` agrees with `s` in what the laws of station control, admission and stages read. -/
structure State.SameCore (s t : State) : Prop where
  powered : t.powered = s.powered := by rfl
  config : t.config = s.config := by rfl
  state : t.station.state = s.station.state := by rfl
  cause : t.station.cause = s.station.cause := by rfl
  adm : t.adm = s.adm := by rfl
  stage : t.stage = s.stage := by rfl

/-- A law that every command keeps: what the operations that write its fields do to it. -/
structure State.Invariant (P : State → Prop) : Prop where
  core : ∀ {s t : State}, P s → s.SameCore t → P t
  denials : ∀ s : State, P s → P { s with adm.denials := 0 }
  timers : ∀ (s : State) (g : StageCtl), g.slots = s.stage.slots → g.order = s.stage.order → P s →
    P { s with stage := g }
  stop : ∀ (s : State) (i : Slot), P s → P (s.stopSlot i)
  trip : ∀ (s : State) (i : Slot) (cause : Category), P s → P (s.trip i cause)
  shift : ∀ (s : State) (i : Slot) (r : Stage), s.stageState i ≠ .claimed →
    r.state.running = s.isRunning i → P s → P (s.setSlot i r)
  decide : ∀ (s t : State) (i : Slot), P s → s.selectable i = true → s.adm.state = .idle →
    s.station.state.working = true → s.Decision i t → P t
  settle : ∀ (s : State) (c : OpenClaim), s.adm.claim = some c → P s →
    P (s.closeClaim.readySlot c.slot) ∧ P (s.closeClaim.grant c.slot c.intended) ∧
      P ((s.closeClaim.readySlot c.slot).deny c.level)
  release : ∀ s : State, s.adm.state = .holdoff ∨ s.adm.state = .shedWait → P s →
    P { s with adm.holdoff := none, adm.state := .idle }
  spacing : ∀ s : State, P s → P { s with adm.shedSpacing := none }
  isolate : ∀ (s : State) (cause : IsolationCause), cause ≠ .none → P s → P (s.enterIsolated cause)
  recause : ∀ (s : State) (cause : IsolationCause), s.station.state = .isolated → cause ≠ .none →
    P s → P { s with station.cause := cause }
  shutdown : ∀ s : State, P s → P s.enterShutdown
  leave : ∀ s : State, P s → P s.enterLeft
  work : ∀ (s : State) (new : StationState), new = .sharing ∨ new = .solo → P s →
    P (s.enterWorking new)
  join : ∀ (s : State) (cfg : ConfigRecord), s.station.state = .config → P s → P (s.enterJoining cfg)
  restart : ∀ s : State, P s → P s.doRestart
  record : ∀ (s : State) (cfg : Option ConfigRecord), s.station.state = .config → P s →
    P { s with config := cfg }
  reset : P State.reset

namespace State.Invariant

variable {P : State → Prop}

/-! ## The shared operations -/

theorem request (k : State.Invariant P) {s : State} (roll : Bool) (h : P s) :
    P (s.requestState roll) :=
  k.core h ⟨by simp, by simp, by simp, by simp, by simp, by simp⟩

theorem raise (k : State.Invariant P) {s : State} (c : Category) (h : P s) : P (s.raise c) :=
  k.core h ⟨by simp, by simp, by simp, by simp, by simp, by simp⟩

theorem serve (k : State.Invariant P) {s : State} (h : P s) : P s.serveLink :=
  k.core h {}

theorem timed (k : State.Invariant P) {s t : State} (h : P s) (e : t = { s with stage := t.stage })
    (slots : t.stage.slots = s.stage.slots) (order : t.stage.order = s.stage.order) : P t := by
  rw [e]
  exact k.timers s t.stage slots order h

theorem keepsStarts (k : State.Invariant P) : State.KeepsStarts P where
  mode _ _ h := k.core h {}
  denials := k.denials
  fan s on h := k.timed h (s.fanCommanded_eq on) (s.fanCommanded_stage on).1
    (s.fanCommanded_stage on).2
  request _ h := k.request false h
  stop := k.stop
  select s h := k.timers s s.select.stage rfl rfl h
  decide := k.decide

theorem keeps (k : State.Invariant P) : State.Keeps P := k.keepsStarts.toKeeps

theorem evaluated (k : State.Invariant P) {s : State} (cause : EvalCause) (h : P s) :
    P (s.evaluate cause) :=
  State.evaluate_keeps k.keeps s cause h

theorem moved (k : State.Invariant P) {s : State} (before : State) (h : P s) :
    P (s.stagesMoved before) :=
  State.stagesMoved_keeps k.keeps s before h

theorem driven (k : State.Invariant P) {s : State} (h : P s) : P s.drivePins :=
  k.core h {}

theorem settled (k : State.Invariant P) {s : State} (before : State) (h : P s) :
    P (s.settleInto before) :=
  k.driven (State.settleStarts_keeps k.keepsStarts s before h)

theorem answered (k : State.Invariant P) {s : State} (code : Nat) (result : ServiceResult)
    (payload : List Byte) (h : P s) : P (s.answer code result payload) :=
  k.core h {}

/-! ## Inputs, sensors and timers at the Stage Controller -/

theorem coilDelivered (k : State.Invariant P) {s : State} (n : Circuit) (h : P s) :
    P (s.coilDelivered n) := by
  have clear : P { s with stage := s.stage.setFreeze n none } := by
    cases n <;> exact k.timers s _ rfl rfl h
  unfold State.coilDelivered
  split
  · split
    · exact k.timed h (s.testFreeze_eq n) (s.testFreeze_slots n).1 (s.testFreeze_slots n).2
    · exact clear
  · exact clear

theorem fanProveOn (k : State.Invariant P) {s : State} (h : P s) : P s.fanProveOn := by
  unfold State.fanProveOn
  split
  · exact k.timers s _ rfl rfl h
  · exact k.timers s _ rfl rfl h
  · exact h

theorem fanProveOff (k : State.Invariant P) {s : State} (h : P s) : P s.fanProveOff := by
  unfold State.fanProveOff
  split
  · exact k.timers s _ rfl rfl h
  · exact h

theorem highPressure (k : State.Invariant P) {s : State} (n : Circuit) (cause : Category) (h : P s) :
    P (s.highPressure n cause) := by
  unfold State.highPressure
  split
  · exact k.trip s _ cause h
  · exact k.raise cause h

theorem lowPressure (k : State.Invariant P) {s : State} (n : Circuit) (cause : Category) (h : P s) :
    P (s.lowPressure n cause) := by
  unfold State.lowPressure
  split
  · exact k.trip s _ cause h
  · exact k.trip s _ cause h
  · exact h

theorem proveHeat (k : State.Invariant P) (s : State) (i : Slot) (h : P s) : P (s.proveHeat i) := by
  unfold State.proveHeat
  split
  · rename_i hp
    exact k.shift s i _ (by simp [hp]) (by simp [State.isRunning, hp, StageState.running]) h
  · exact h

theorem losesHeatProve (k : State.Invariant P) (s : State) (i : Slot) (h : P s) :
    P (s.losesHeatProve i) := by
  unfold State.losesHeatProve
  split
  · exact k.trip s i .heatProve h
  · exact k.trip s i .heatProve h
  · exact h

theorem stageActivated (k : State.Invariant P) {s : State} (r : InputRole) (h : P s) :
    P (s.stageActivated r) := by
  cases r with
  | fanProve => exact k.fanProveOn h
  | hp1 | hp2 => exact k.moved s (k.highPressure _ _ h)
  | lp1 | lp2 => exact k.moved s (k.lowPressure _ _ h)
  | heatProve => exact State.moveAll_keeps k.keeps _ k.proveHeat _ s h
  | occ | smoke | filter => exact h

theorem stageDeactivated (k : State.Invariant P) {s : State} (r : InputRole) (h : P s) :
    P (s.stageDeactivated r) := by
  cases r with
  | fanProve => exact k.fanProveOff h
  | heatProve => exact State.moveAll_keeps k.keeps _ k.losesHeatProve _ s h
  | occ | smoke | filter | hp1 | hp2 | lp1 | lp2 => exact h

theorem failFanProof (k : State.Invariant P) {s : State} (h : P s) : P s.failFanProof := by
  unfold State.failFanProof
  refine k.raise .fanProve ?_
  refine State.moveAll_keeps k.keeps _ k.stop allSlots _ ?_
  exact k.timers s _ rfl rfl h

theorem freeSlot (k : State.Invariant P) {s : State} {i : Slot} (hi : s.stageState i = .runLock)
    (h : P s) : P (s.freeSlot i) := by
  refine State.serveWanted_keeps k.keeps 4 _ _ (State.moveEach_keeps k.keeps _ k.stop _ _
    (State.reportMove_keeps k.keeps _ s (k.shift s i _ ?_ ?_ h)))
  · simp [hi]
  · simp [State.isRunning, hi, StageState.running]

theorem settleClaim (k : State.Invariant P) {s : State} {c : OpenClaim} (hc : s.adm.claim = some c)
    (h : P s) : P (s.settleClaim c) := by
  obtain ⟨ready, granted, denied⟩ := k.settle s c hc h
  unfold State.settleClaim
  split
  · exact k.moved s ready
  · split
    · exact k.moved s granted
    · exact k.moved s denied

/-! ## The Sensor Scanner -/

theorem heatLimit (k : State.Invariant P) {s : State} (h : P s) : P s.heatLimit := by
  unfold State.heatLimit
  split
  · split
    · exact State.moveAll_keeps k.keeps _ (fun s i => k.trip s i .heatLimit) _ s h
    · exact h
  · exact h

theorem deliverResult (k : State.Invariant P) {s : State} (ch : Channel) (h : P s) :
    P (s.deliverResult ch) := by
  unfold State.deliverResult
  split
  · exact k.coilDelivered _ h
  · dsimp only
    split
    · exact k.heatLimit (k.evaluated .plain h)
    · exact k.evaluated .plain h

theorem deliverChange (k : State.Invariant P) {s : State} (ch : Channel) (h : P s) :
    P (s.deliverChange ch) := by
  unfold State.deliverChange
  split
  · exact k.coilDelivered _ h
  · exact k.evaluated .plain h

theorem deliverChanges (k : State.Invariant P) {s : State} (before : State) (h : P s) :
    P (s.deliverChanges before) := by
  unfold State.deliverChanges
  induction allChannels generalizing s with
  | nil => exact h
  | cons ch rest ih =>
    rw [List.foldl_cons]
    refine ih ?_
    split
    · exact h
    · exact k.deliverChange ch h

theorem referenceCheck (k : State.Invariant P) {s : State} (h : P s) : P s.referenceCheck := by
  unfold State.referenceCheck
  dsimp only
  split
  · split
    · exact k.deliverChanges _ (k.raise .refCheck (k.core h {}))
    · exact k.core h {}
  · split
    · exact k.deliverChanges _ (k.core h {})
    · exact k.core h {}

theorem externalComplete (k : State.Invariant P) {s : State} (ch : Channel) (code : BitVec 12)
    (h : P s) : P (s.externalComplete ch code) := by
  unfold State.externalComplete
  dsimp only
  split
  · exact h
  · split
    · exact k.core h {}
    · refine k.deliverResult ch ?_
      split
      · exact k.raise _ (k.core h {})
      · exact k.core h {}

theorem complete (k : State.Invariant P) {s : State} (c : Conversion) (code : BitVec 12) (h : P s) :
    P (s.complete c code) := by
  cases c with
  | refHigh => exact k.core h {}
  | refLow => exact k.referenceCheck (k.core h {})
  | external ch => exact k.externalComplete ch code h

/-! ## Station control -/

theorem returnToSharing (k : State.Invariant P) {s : State} (holds : Bool) (h : P s) :
    P (s.returnToSharing holds) := by
  unfold State.returnToSharing
  split
  · exact k.work s .sharing (.inl rfl) h
  · exact h

theorem hearOther (k : State.Invariant P) {s : State} (h : P s) : P s.hearOther :=
  k.returnToSharing _ (k.core h {})

theorem leaveShutdown (k : State.Invariant P) {s : State} (h : P s) : P s.leaveShutdown := by
  unfold State.leaveShutdown
  repeat' split
  · exact k.isolate s _ nofun h
  · exact k.work s _ (.inr rfl) h
  · exact k.isolate s _ nofun h
  · exact k.isolate s _ nofun h
  · exact k.work s _ (.inl rfl) h

theorem joinDecision (k : State.Invariant P) {s : State} (h : P s) : P s.joinDecision := by
  unfold State.joinDecision
  repeat' split
  · exact k.shutdown s h
  · exact k.work s _ (.inr rfl) h
  · exact k.isolate s _ nofun h
  · exact k.work s _ (.inl rfl) h
  · exact k.isolate s _ nofun h

theorem smokeActive (k : State.Invariant P) {s : State} (h : P s) : P s.smokeActive := by
  unfold State.smokeActive
  split
  · exact k.shutdown s h
  · exact h

theorem smokeCleared (k : State.Invariant P) {s : State} (h : P s) : P s.smokeCleared := by
  unfold State.smokeCleared
  split
  · exact k.leaveShutdown h
  · exact h

theorem dropReported (k : State.Invariant P) {s : State} (h : P s) : P s.dropReported := by
  unfold State.dropReported
  split
  · refine k.raise .linkTx ?_
    cases hs : s.station.state with
    | sharing => exact k.isolate s .transmit nofun h
    | isolated =>
      dsimp only
      split
      · exact k.recause s .transmit hs nofun h
      · exact h
    | config | joining | solo | shutdown | left => exact h
  · exact h

theorem duplicateFound (k : State.Invariant P) {s : State} (h : P s) : P s.duplicateFound := by
  unfold State.duplicateFound
  cases hs : s.station.state with
  | joining | sharing | solo =>
    exact k.raise _ (k.isolate _ .duplicate nofun (k.core h {}))
  | isolated =>
    refine k.raise _ (k.core (s := { s with station.cause := .duplicate })
      (k.recause s .duplicate hs nofun h) {})
  | shutdown => exact k.raise _ (k.core h {})
  | left | config => exact h

/-! ## Input events -/

theorem modeHears (k : State.Invariant P) {s : State} (r : InputRole) (h : P s) :
    P (s.modeHears r) := by
  unfold State.modeHears
  split
  · exact k.evaluated .plain h
  · exact h

theorem raiseInput (k : State.Invariant P) {s : State} (r : InputRole) (e : InputEvent) (h : P s) :
    P (s.raiseInput r e) := by
  unfold State.raiseInput
  split
  · split
    · exact k.raise _ h
    · exact h
  · exact h

theorem deliverInput (k : State.Invariant P) {s : State} (r : InputRole) (e : InputEvent) (h : P s) :
    P (s.deliverInput r e) := by
  cases e with
  | none => exact h
  | activated =>
    simp only [State.deliverInput]
    split
    · exact k.smokeActive (k.modeHears r (k.stageActivated r h))
    · exact k.modeHears r (k.stageActivated r h)
  | deactivated =>
    simp only [State.deliverInput]
    split
    · exact k.smokeCleared (k.modeHears r (k.stageDeactivated r h))
    · exact k.modeHears r (k.stageDeactivated r h)
  | settled active =>
    simp only [State.deliverInput]
    split
    · exact k.smokeActive h
    · exact h

/-! ## Frames of other stations and ends of own attempts -/

theorem setEntry (k : State.Invariant P) {s : State} (n : Nat) (e : Entry) (h : P s) :
    P (s.setEntry n e) :=
  k.core h ⟨by simp, by simp, by simp, by simp, by simp, by simp⟩

theorem recomputeCeiling (k : State.Invariant P) {s : State} (h : P s) : P s.recomputeCeiling := by
  unfold State.recomputeCeiling
  dsimp only
  split
  · exact k.raise _ (k.core h {})
  · exact k.core h {}

theorem entryChanged (k : State.Invariant P) {s : State} (marked : Bool) (h : P s) :
    P (s.entryChanged marked) := by
  unfold State.entryChanged
  split
  · exact k.evaluated .neighbourUpdate h
  · exact h

/-- A frame of another station, completed, at the receiver and at station control. -/
theorem hearFrame (k : State.Invariant P) {s : State} (h : P s) :
    P (State.hearOther { s with link := s.link.complete }) :=
  k.hearOther (k.core h {})

theorem takeState (k : State.Invariant P) {s : State} (n : Nat) (f : StateFrame) (h : P s) :
    P (s.takeState n f) := by
  unfold State.takeState
  dsimp only
  split
  · exact k.request false (k.entryChanged _ (k.recomputeCeiling (k.setEntry n _ (k.hearFrame h))))
  · exact k.entryChanged _ (k.recomputeCeiling (k.setEntry n _ (k.hearFrame h)))

theorem takeLeave (k : State.Invariant P) {s : State} (n : Nat) (h : P s) : P (s.takeLeave n) := by
  unfold State.takeLeave
  dsimp only
  split
  · exact k.hearFrame h
  · exact k.entryChanged _ (k.recomputeCeiling (k.setEntry n _ (k.hearFrame h)))

theorem respondShed (k : State.Invariant P) {s : State} (caller : Nat) (call : ShedCall) (h : P s) :
    P (s.respondShed caller call) := by
  unfold State.respondShed
  dsimp only
  split
  · split
    · exact k.moved s (k.stop s _ h)
    · exact h
  · exact h

theorem takeShed (k : State.Invariant P) {s : State} (n : Nat) (call : ShedCall) (h : P s) :
    P (s.takeShed n call) := by
  unfold State.takeShed
  dsimp only
  split
  · exact k.respondShed n call (k.hearFrame h)
  · exact k.hearFrame h

theorem failAttempt (k : State.Invariant P) {s : State} (w : WireFrame) (h : P s) :
    P (s.failAttempt w) := by
  unfold State.failAttempt
  dsimp only
  split
  · exact k.core h {}
  · split
    · exact k.core h {}
    · exact k.serve (k.dropReported (k.core h {}))

theorem sendFrame (k : State.Invariant P) {s : State} (w : WireFrame) (h : P s) :
    P (s.sendFrame w) :=
  k.returnToSharing _ (k.core h {})

/-! ## Service requests -/

theorem raiseAll (k : State.Invariant P) {s : State} (cs : List Category) (h : P s) :
    P (s.raiseAll cs) := by
  unfold State.raiseAll
  induction cs generalizing s with
  | nil => exact h
  | cons c cs ih => exact ih (k.raise c h)

theorem clearFaults (k : State.Invariant P) {s : State} (set : BitVec 24) (h : P s) :
    P (s.clearFaults set) := by
  unfold State.clearFaults
  split
  · exact h
  · exact k.raiseAll _ (k.core h {})

theorem takeRecord (k : State.Invariant P) {s : State} (cfg : ConfigRecord)
    (hs : s.station.state = .config) (h : P s) : P (s.takeRecord cfg) :=
  k.core (s := { s with config := some cfg }) (k.record s (some cfg) hs h) {}

theorem unlockSlot (k : State.Invariant P) {s : State} {i : Slot} (hi : s.stageState i = .locked)
    (h : P s) : P (s.unlockSlot i) :=
  k.settled s (k.moved s (k.shift s i _ (by simp [hi])
    (by simp [State.isRunning, hi, StageState.running]) h))

end State.Invariant

/-! ## The commands -/

/-- Every next state of an outcome has the property. -/
def Gives (P : State → Prop) (o : Host.Outcome State Fault Refusal) : Prop :=
  ∀ t, o = .next t → P t

theorem gives_next {P : State → Prop} {s : State} (h : P s) : Gives P (.next s) := by
  intro t ht
  cases ht
  exact h

/-- A command that changes nothing while its event cannot occur. -/
theorem gives_ite {P : State → Prop} {s t : State} {b : Bool} (h : P s) (ht : b = true → P t) :
    Gives P (.next (if b then t else s)) := by
  cases b with
  | false => exact gives_next h
  | true => exact gives_next (ht rfl)

namespace State.Invariant

variable {P : State → Prop}

theorem event (k : State.Invariant P) {s : State} {occurs : Bool} {effect : State → State}
    (h : P s) (he : occurs = true → P (effect s)) : Gives P (s.event occurs effect) :=
  gives_ite h fun hb => k.settled s (he (Bool.and_eq_true_iff.1 hb).2)

theorem inner {s : State} {occurs : Bool} {effect : State → State} (h : P s) (he : P (effect s)) :
    Gives P (s.innerEvent occurs effect) :=
  gives_ite h fun _ => he

theorem quiet (k : State.Invariant P) {s : State} {occurs : Bool} {effect : State → State} (h : P s)
    (he : P (effect s)) : Gives P (s.quietEvent occurs effect) :=
  gives_ite h fun _ => k.driven he

/-- A completed request is handled as from the receiver in HUNT. -/
theorem requested (k : State.Invariant P) {s : State} {handle : State → State} (h : P s)
    (hr : ∀ t : State, P t → P (handle t)) : Gives P (s.request handle) := by
  have hunt : P { s with svc.rx := .hunt } := k.core h {}
  refine gives_ite h fun _ => ?_
  split
  · exact hunt
  · exact hr _ hunt

/-! ### The requests -/

theorem execConfigure (k : State.Invariant P) (record : List Byte) {s : State} (h : P s) :
    Gives P (execConfigure record s) := by
  refine k.requested h fun s h => ?_
  split
  · exact k.answered _ _ _ h
  · split
    · exact k.answered _ _ _ h
    · rename_i hs
      split
      · exact k.answered _ _ _ h
      · exact k.answered _ _ _ (k.driven (k.takeRecord _ (Decidable.not_not.1 hs) h))

theorem execStart (k : State.Invariant P) {s : State} (h : P s) : Gives P (execStart s) := by
  refine k.requested h fun s h => ?_
  split
  · rename_i hs _
    exact k.answered _ _ _ (k.settled s (k.join s _ hs h))
  · exact k.answered _ _ _ h

theorem execReadEntry (k : State.Invariant P) (n : Byte) {s : State} (h : P s) :
    Gives P (execReadEntry n s) := by
  refine k.requested h fun s h => ?_
  split <;> exact k.answered _ _ _ h

theorem execClear (k : State.Invariant P) (set : BitVec 24) {s : State} (h : P s) :
    Gives P (execClear set s) := by
  refine k.requested h fun s h => ?_
  split
  · exact k.answered _ _ _ h
  · exact k.answered _ _ _ (k.driven (k.clearFaults set h))

theorem execUnlock (k : State.Invariant P) (code : Byte) {s : State} (h : P s) :
    Gives P (execUnlock code s) := by
  refine k.requested h fun s h => ?_
  split
  · exact k.answered _ _ _ h
  · split
    · split
      · rename_i hl
        exact k.answered _ _ _ (k.unlockSlot hl h)
      · exact k.answered _ _ _ h
    · exact k.answered _ _ _ h

theorem execLeave (k : State.Invariant P) {s : State} (h : P s) : Gives P (execLeave s) := by
  refine k.requested h fun s h => ?_
  have left := k.answered 0x31 .ok [] (k.settled s (k.leave s h))
  cases s.station.state with
  | sharing | isolated | solo | shutdown => exact left
  | config | joining | left => exact k.answered _ _ _ h

theorem execRollcall (k : State.Invariant P) {s : State} (h : P s) : Gives P (execRollcall s) := by
  refine k.requested h fun s h => ?_
  split
  · exact k.answered _ _ _ (k.request true h)
  · exact k.answered _ _ _ h

theorem execLinkTest (k : State.Invariant P) (mask : BitVec 16) (count : Byte) {s : State}
    (h : P s) : Gives P (execLinkTest mask count s) := by
  refine k.requested h fun s h => ?_
  repeat' split
  all_goals exact k.core h {}

theorem execUnknownRequest (k : State.Invariant P) (code : Byte) (payload : List Byte) {s : State}
    (h : P s) : Gives P (execUnknownRequest code payload s) := by
  unfold Machine.execUnknownRequest
  split
  · exact gives_next h
  · exact k.requested h fun s h => k.answered _ _ _ h

theorem execServiceResponseEnd (k : State.Invariant P) {s : State} (h : P s) :
    Gives P (execServiceResponseEnd s) := by
  unfold Machine.execServiceResponseEnd
  split
  · exact gives_next h
  · have ended : P { s with svc.buffer := .empty } := k.core h {}
    split
    · exact k.event h fun _ => k.restart _ ended
    · exact inner h ended

/-! ### The roof link -/

theorem execStateReceived (k : State.Invariant P) (frame : List Byte) {s : State} (h : P s) :
    Gives P (execStateReceived frame s) := by
  unfold Machine.execStateReceived
  split
  · exact k.event h fun _ => k.takeState _ _ h
  · exact gives_next h

theorem execShedReceived (k : State.Invariant P) (frame : List Byte) {s : State} (h : P s) :
    Gives P (execShedReceived frame s) := by
  unfold Machine.execShedReceived
  split
  · exact k.event h fun _ => k.takeShed _ _ h
  · exact gives_next h

theorem execLeaveReceived (k : State.Invariant P) (frame : List Byte) {s : State} (h : P s) :
    Gives P (execLeaveReceived frame s) := by
  unfold Machine.execLeaveReceived
  split
  · exact k.event h fun _ => k.takeLeave _ h
  · exact gives_next h

theorem execOwnEcho (k : State.Invariant P) (frame : List Byte) {s : State} (h : P s) :
    Gives P (execOwnEcho frame s) := by
  unfold Machine.execOwnEcho
  split
  · exact inner h (k.core h {})
  · exact gives_next h

theorem execDuplicateDetected (k : State.Invariant P) (frame : List Byte) {s : State} (h : P s) :
    Gives P (execDuplicateDetected frame s) := by
  unfold Machine.execDuplicateDetected
  split
  · exact k.event h fun _ => k.duplicateFound (k.core h {})
  · exact gives_next h

theorem execAttemptFailed (k : State.Invariant P) (cause : ReadBackFailure) {s : State} (h : P s) :
    Gives P (execAttemptFailed cause s) := by
  unfold Machine.execAttemptFailed
  split
  · exact k.event h fun _ => k.failAttempt _ h
  · exact gives_next h

theorem execFrameSent (k : State.Invariant P) {s : State} (h : P s) :
    Gives P (execFrameSent s) := by
  unfold Machine.execFrameSent
  split
  · exact k.event h fun _ => k.sendFrame _ h
  · exact gives_next h

/-! ### Timers and conversions -/

theorem execSilenceExpiry (k : State.Invariant P) {s : State} (h : P s) :
    Gives P (execSilenceExpiry s) := by
  refine k.event h fun _ => ?_
  have stopped : P { s with station.silence := none } := k.core h {}
  dsimp only
  split
  · exact k.isolate _ .silent nofun stopped
  · exact stopped

theorem execSettleExpiry (k : State.Invariant P) {s : State} (h : P s) :
    Gives P (execSettleExpiry s) := by
  unfold Machine.execSettleExpiry
  split
  · rename_i hc
    exact k.event h fun _ => k.settleClaim hc h
  · exact gives_next h

theorem execFanProofExpiry (k : State.Invariant P) {s : State} (h : P s) :
    Gives P (execFanProofExpiry s) := by
  refine k.event h fun _ => ?_
  split
  · split
    · exact k.timers s _ rfl rfl h
    · exact k.failFanProof h
  · exact k.failFanProof h
  all_goals exact h

theorem execProveExpiry (k : State.Invariant P) (i : Slot) {s : State} (h : P s) :
    Gives P (execProveExpiry i s) := by
  refine k.event h fun hi => ?_
  simp only [Bool.and_eq_true, beq_iff_eq] at hi
  split
  · exact k.moved s (k.trip s i _ h)
  · exact k.moved s (k.shift s i _ (by simp [hi.2])
      (by simp [State.isRunning, hi.2, StageState.running]) h)

theorem execConversionComplete (k : State.Invariant P) (code : BitVec 12) {s : State} (h : P s) :
    Gives P (execConversionComplete code s) := by
  unfold Machine.execConversionComplete
  split
  · exact k.event h fun _ => k.complete _ code (k.core h {})
  · exact gives_next h

theorem execInputSample (k : State.Invariant P) (r : InputRole) (pinHigh : Bool) {s : State}
    (h : P s) : Gives P (execInputSample r pinHigh s) := by
  refine gives_ite h fun _ => k.driven (k.raiseInput r _ ?_)
  refine State.settleStarts_keeps k.keepsStarts _ s (k.deliverInput r _ ?_)
  exact k.core h {}

/-- A law is kept by every command but the supply's own. -/
theorem exec (k : State.Invariant P) (c : Instr) (s : State) (hc : c ≠ .supplyOutOfRange)
    (h : P s) : Gives P (exec c s) := by
  unfold Machine.exec
  cases c with
  | powerUp => exact gives_next (k.core k.reset {})
  | supplyOutOfRange => exact absurd rfl hc
  | restart => exact k.event h fun _ => k.restart s h
  | joinExpiry =>
    exact k.event h fun _ => k.joinDecision (k.core h {})
  | silenceExpiry => exact k.execSilenceExpiry h
  -- Service requests
  | configure record => exact k.execConfigure record h
  | start => exact k.execStart h
  | readEntry n => exact k.execReadEntry n h
  | readStatus | readFaults | serviceRestart =>
    exact k.requested h fun _ h => k.core h {}
  | clear set => exact k.execClear set h
  | unlock code => exact k.execUnlock code h
  | leave => exact k.execLeave h
  | rollcall => exact k.execRollcall h
  | linkTest mask count => exact k.execLinkTest mask count h
  | unknownRequest code payload => exact k.execUnknownRequest code payload h
  | serviceResponseEnd => exact k.execServiceResponseEnd h
  -- Frames and attempts
  | stateReceived frame => exact k.execStateReceived frame h
  | shedReceived frame => exact k.execShedReceived frame h
  | leaveReceived frame => exact k.execLeaveReceived frame h
  | ownEcho frame => exact k.execOwnEcho frame h
  | duplicateDetected frame => exact k.execDuplicateDetected frame h
  | attemptFailed cause => exact k.execAttemptFailed cause h
  | frameSent => exact k.execFrameSent h
  | attemptBegin | cutOffFrameRelease => exact k.quiet h (k.core h {})
  | reportTimerExpiry =>
    exact inner h (k.request false (k.core h {}))
  -- Entries of the roof table
  | freshnessExpiry n =>
    exact k.event h fun _ => k.entryChanged _ (k.recomputeCeiling (k.setEntry n _ h))
  | claimHoldExpiry n => exact k.event h fun _ => k.entryChanged _ (k.setEntry n _ h)
  -- Timers of the Admission Unit and the Mode Logic
  | settleExpiry => exact k.execSettleExpiry h
  | holdoffExpiry | shedWaitExpiry =>
    refine k.event h fun hi => k.release s ?_ h
    simp only [Bool.and_eq_true, beq_iff_eq] at hi
    simp [hi.2]
  | shedSpacingExpiry => exact inner h (k.spacing s h)
  | changeoverExpiry | offDelayExpiry | fullOpenExpiry | damperTimerExpiry =>
    exact k.event h fun _ => k.evaluated _ (k.core h {})
  -- Timers of the Stage Controller
  | fanProofExpiry => exact k.execFanProofExpiry h
  | proveExpiry i => exact k.execProveExpiry i h
  | minRunExpiry i =>
    refine k.event h fun hi => k.freeSlot ?_ h
    simp only [Bool.and_eq_true, beq_iff_eq] at hi
    exact hi.2
  | minOffExpiry i | tripDelayExpiry i =>
    refine k.event h fun hi => k.moved s (k.shift s i _ ?_ ?_ h) <;>
      simp only [Bool.and_eq_true, beq_iff_eq] at hi <;>
      simp [State.isRunning, hi.2, StageState.running]
  | interStageExpiry => exact k.event h fun _ => k.timers s _ rfl rfl h
  | freezeExpiry n =>
    refine k.event h fun _ => k.moved s (k.trip _ _ _ ?_)
    cases n <;> exact k.timers s _ rfl rfl h
  -- Conversions and samples
  | conversionComplete code => exact k.execConversionComplete code h
  | inputSample r pinHigh => exact k.execInputSample r pinHigh h
  -- Events that write their own block alone
  | secondsTick | requestDiscardedBusy | serviceFrameBadCrc | serviceFrameAbort | linkIdle
  | receiveAbort | frameRejected | backoffAbandoned | spacingExpiry | pwmPeriodStart
  | scanTimerExpiry | frameStartCharacter | charactersAfterFrame | serviceStartCharacter
  | serviceLengthZero => exact inner h (k.core h {})

/-- A law that does not look at the supply is kept by every step. -/
theorem step (k : State.Invariant P)
    (supply : ∀ (s : State) (link : Link) (svc : ServicePort), P s →
      P { s with powered := false, link := link, svc := svc, pins := Pins.low })
    {s t : State} (h : P s) (hst : step s = .next t) : P t := by
  unfold Machine.step at hst
  split at hst
  · cases hst
    exact h
  · rename_i c rest _
    have h' : P { s with pending := rest } := k.core h {}
    by_cases hc : c = .supplyOutOfRange
    · subst hc
      cases hst
      exact supply _ _ _ h'
    · exact k.exec c _ hc h' t hst

end State.Invariant

end Sys2Proof.Machine

/-! # Stages that run, and the laws of the plant

What stops, trips, starts and the entries of station control leave running (R135, R136, R149, R150),
and from it the laws of admission, running order, claim and load (R6, R68, R69, R88, R136, R143). -/

namespace Sys2Proof.Machine

/-! ## Slots through reports -/

/-- An evaluation moves no stage. -/
theorem State.evaluateOnce_stage (s : State) (cause : EvalCause) :
    (s.evaluateOnce cause).stage.slots = s.stage.slots ∧
      (s.evaluateOnce cause).stage.order = s.stage.order := by
  have demand (s : State) (b : ModeLogic) : (s.handDemand b).stage = s.stage := by
    unfold State.handDemand; split <;> rfl
  have fan (s : State) (b : ModeLogic) : (s.handFan b).stage.slots = s.stage.slots ∧
      (s.handFan b).stage.order = s.stage.order := by
    unfold State.handFan
    split
    · exact ⟨rfl, rfl⟩
    · exact s.fanCommanded_stage _
  have report (s : State) (b : ModeLogic) : (s.handReport b).stage = s.stage := by
    unfold State.handReport; split <;> simp
  simp only [State.evaluateOnce, report, fan, demand, and_self]

theorem State.reportStages_stage (s before : State) : (s.reportStages before).stage = s.stage := by
  unfold State.reportStages
  dsimp only
  repeat' split
  all_goals simp

/-- The report of a transition moves no further stage. -/
theorem State.reportMove_stage (s before : State) :
    (s.reportMove before).stage.slots = s.stage.slots ∧
      (s.reportMove before).stage.order = s.stage.order := by
  unfold State.reportMove
  split
  · exact ⟨rfl, rfl⟩
  · simp only [State.evaluateOnce_stage, State.reportStages_stage, and_self]

theorem State.slot_congr {s t : State} (h : t.stage.slots = s.stage.slots) (i : Slot) :
    t.slot i = s.slot i := by
  rw [State.slot, h, State.slot]

theorem State.stageState_congr {s t : State} (h : t.stage.slots = s.stage.slots) (i : Slot) :
    t.stageState i = s.stageState i := by
  rw [State.stageState, State.slot_congr h, State.stageState]

theorem State.isRunning_congr {s t : State} (h : t.stage.slots = s.stage.slots) (i : Slot) :
    t.isRunning i = s.isRunning i := by
  rw [State.isRunning, State.stageState_congr h, State.isRunning]

/-! ## What runs after one operation -/

theorem State.isRunning_of_slot {s : State} {i : Slot} {r : Stage} (h : s.slot i = r) :
    s.isRunning i = r.state.running := by
  rw [State.isRunning, State.stageState, h]

theorem State.isRunning_stopSlot (s : State) (i j : Slot) :
    (s.stopSlot i).isRunning j = (s.isRunning j && j != i) := by
  rw [State.isRunning_of_slot (State.stopSlot_slot s i j)]
  by_cases hj : j = i
  · subst hj
    cases hr : s.isRunning j <;> simp_all [StageState.running, State.isRunning, State.stageState]
  · simp [hj, State.isRunning, State.stageState]

theorem State.isRunning_setSlot (s : State) (i j : Slot) (r : Stage) :
    (s.setSlot i r).isRunning j = if j = i then r.state.running else s.isRunning j := by
  rw [State.isRunning_of_slot (State.slot_setSlot s i j r)]
  split <;> rfl

/-- A slot taken out reads as the stage it was given, with the prove timer stopped. -/
theorem State.slot_takeOut (s : State) (i j : Slot) (r : Stage) :
    ({ s with stage := s.stage.takeOut i r } : State).slot j =
      if j = i then { r with prove := none } else s.slot j := by
  simp only [State.slot, StageCtl.takeOut_slots, PerSlot.get_set]

theorem State.isRunning_unclaimSlot (s : State) (i j : Slot) :
    (s.unclaimSlot i).isRunning j = s.isRunning j := by
  unfold State.unclaimSlot
  split
  · rename_i h
    rw [State.isRunning_setSlot]
    split
    · rename_i hj
      subst hj
      simp [State.isRunning, h, StageState.running]
    · rfl
  · rfl

theorem State.isRunning_startSlot (s : State) (i j : Slot) :
    (s.startSlot i).isRunning j = (s.isRunning j || j == i) := by
  rw [State.isRunning_of_slot (State.startSlot_slot s i j)]
  by_cases hj : j = i
  · subst hj
    simp only [if_true, beq_self_eq_true, Bool.or_true]
    split <;> rfl
  · simp [hj, State.isRunning, State.stageState]

/-- The stage a trip leaves: LOCKED by its history, or TRIPPED for the trip delay (R152, R157). -/
def State.trippedStage (s : State) (i : Slot) : Stage :=
  let h := pushTrip (s.slot i).history s.seconds
  if locksOut h then { s.slot i with state := .locked, timer := none, history := h }
  else { s.slot i with state := .tripped, timer := some tripDelay, history := h }

theorem State.trippedStage_state (s : State) (i : Slot) :
    (s.trippedStage i).state = .locked ∨ (s.trippedStage i).state = .tripped := by
  unfold State.trippedStage
  dsimp only
  split
  · exact .inl rfl
  · exact .inr rfl

/-- A trip of a stage that runs takes it out; of any other it changes nothing. -/
theorem State.trip_stage (s : State) (i : Slot) (cause : Category) :
    (s.trip i cause).stage =
      if s.isRunning i = true then s.stage.takeOut i (s.trippedStage i) else s.stage := by
  unfold State.trip State.trippedStage
  split
  · dsimp only
    split <;> simp
  · rfl

theorem State.trip_adm (s : State) (i : Slot) (cause : Category) :
    (s.trip i cause).adm = s.adm := by
  unfold State.trip
  dsimp only
  repeat' split
  all_goals simp

theorem State.isRunning_trip (s : State) (i j : Slot) (cause : Category) :
    (s.trip i cause).isRunning j = (s.isRunning j && j != i) := by
  have stage := s.trip_stage i cause
  split at stage
  · have slots : (s.trip i cause).stage.slots =
        ({ s with stage := s.stage.takeOut i (s.trippedStage i) } : State).stage.slots := by
      rw [stage]
    rw [State.isRunning_congr slots, State.isRunning_of_slot (State.slot_takeOut s i j _)]
    by_cases hj : j = i
    · subst hj
      rcases s.trippedStage_state j with h | h <;> simp [h, StageState.running]
    · simp [hj, State.isRunning, State.stageState]
  · rename_i hr
    have slots : (s.trip i cause).stage.slots = s.stage.slots := by rw [stage]
    rw [State.isRunning_congr slots]
    by_cases hj : j = i
    · subst hj
      simp [hr]
    · simp [hj]

/-! ## The staged load -/

/-- The staged load, slot by slot. -/
theorem State.stagedLoad_eq (s : State) :
    s.stagedLoad = (allSlots.map fun i => if s.isRunning i then s.increment i else 0).sum := by
  unfold State.stagedLoad
  induction allSlots with
  | nil => rfl
  | cons i rest ih =>
    rw [List.filter_cons]
    split
    · rename_i h
      simp [h, ih]
    · rename_i h
      simp [h, ih]

theorem State.increment_congr {s t : State} (h : t.config = s.config) (i : Slot) :
    t.increment i = s.increment i := by
  simp only [State.increment, State.slotConfig, State.cfg, h]

theorem State.cfg_congr {s t : State} (h : t.config = s.config) : t.cfg = s.cfg := by
  simp only [State.cfg, h]

/-- `t` has the record of `s` and runs no stage that `s` does not. -/
structure State.Below (s t : State) : Prop where
  config : t.config = s.config
  runs : ∀ i, t.isRunning i = true → s.isRunning i = true

theorem State.Below.refl (s : State) : s.Below s := ⟨rfl, fun _ => id⟩

theorem State.Below.trans {a b c : State} (h : a.Below b) (k : b.Below c) : a.Below c :=
  ⟨k.config.trans h.config, fun i hi => h.runs i (k.runs i hi)⟩

theorem State.Below.stagedLoad {s t : State} (h : s.Below t) : t.stagedLoad ≤ s.stagedLoad := by
  rw [State.stagedLoad_eq, State.stagedLoad_eq]
  refine List.sum_le_sum fun i _ => ?_
  rw [State.increment_congr h.config]
  by_cases hi : t.isRunning i = true
  · simp [hi, h.runs i hi]
  · simp [hi]

/-- Nothing running makes no load. -/
theorem State.stagedLoad_zero {s : State} (h : ∀ i, s.isRunning i = false) : s.stagedLoad = 0 := by
  simp [State.stagedLoad_eq, allSlots, h]

/-- A start adds at most its slot's increment. -/
theorem State.stagedLoad_startSlot (s : State) (i : Slot) :
    (s.startSlot i).stagedLoad ≤ s.stagedLoad + s.increment i := by
  have config : (s.startSlot i).config = s.config := by rw [State.startSlot_eq]
  have one : s.increment i = (allSlots.map fun j => if j = i then s.increment j else 0).sum := by
    cases i <;> simp [allSlots]
  rw [State.stagedLoad_eq, State.stagedLoad_eq, one, ← List.sum_map_add]
  refine List.sum_le_sum fun j _ => ?_
  rw [State.isRunning_startSlot, State.increment_congr config]
  by_cases hj : j = i <;> cases s.isRunning j <;> simp [hj]

/-- Everything an evaluation with its stops does leaves the record and starts nothing. -/
theorem State.below_keeps (s : State) : State.Keeps s.Below where
  mode _ _ h := ⟨h.config, h.runs⟩
  denials _ h := ⟨h.config, h.runs⟩
  fan t on h := by
    have slots := (t.fanCommanded_stage on).1
    refine ⟨?_, fun i hi => h.runs i (State.isRunning_congr slots i ▸ hi)⟩
    rw [t.fanCommanded_eq on]
    exact h.config
  request t h := by
    have slots : t.requestState.stage.slots = t.stage.slots := by simp
    exact ⟨by simpa using h.config, fun i hi => h.runs i (State.isRunning_congr slots i ▸ hi)⟩
  stop t i h := by
    refine ⟨?_, fun j hj => h.runs j ?_⟩
    · rw [t.stopSlot_eq i]
      exact h.config
    · rw [State.isRunning_stopSlot, Bool.and_eq_true] at hj
      exact hj.1

theorem State.below_unclaimSlot (s t : State) (i : Slot) (h : s.Below t) :
    s.Below (t.unclaimSlot i) := by
  refine ⟨?_, fun j hj => h.runs j (t.isRunning_unclaimSlot i j ▸ hj)⟩
  rw [t.unclaimSlot_eq i]
  exact h.config

/-! ## Forced stops -/

theorem State.moveEach_cons (s : State) (move : State → Slot → State) (i : Slot) (rest : List Slot) :
    s.moveEach move (i :: rest) = ((move s i).reportMove s).moveEach move rest := rfl

theorem State.reportMove_config (s before : State) : (s.reportMove before).config = s.config := by
  rw [(State.reportMove_frame s before).1]

/-- A running stage as a stop leaves it (R149). -/
def State.stoppedStage (s : State) (i : Slot) : Stage :=
  { s.slot i with
    state := .offLock, timer := some (ofSeconds (s.slotConfig i).minOff), prove := none }

/-- The stops of one event leave each named running stage in OFF_LOCK and every other slot alone. -/
theorem State.moveEach_stop_slot (l : List Slot) (s : State) (i : Slot) :
    (s.moveEach State.stopSlot l).slot i =
      if i ∈ l ∧ s.isRunning i = true then s.stoppedStage i else s.slot i := by
  induction l generalizing s with
  | nil => simp [State.moveEach]
  | cons j rest ih =>
    have slots := ((s.stopSlot j).reportMove_stage s).1
    have config : ((s.stopSlot j).reportMove s).slotConfig i = s.slotConfig i := by
      rw [State.slotConfig, State.cfg_congr (State.reportMove_config _ _), s.stopSlot_eq j]
      rfl
    have stopped : (s.stopSlot j).slot i =
        if i = j ∧ s.isRunning j = true then s.stoppedStage j else s.slot i := State.stopSlot_slot ..
    rw [State.moveEach_cons, ih, State.stoppedStage, State.slot_congr slots, State.isRunning_congr slots,
      State.isRunning_stopSlot, config, stopped]
    by_cases hij : i = j
    · subst hij
      cases hr : s.isRunning i <;> simp
    · cases hr : s.isRunning i <;> simp [hij, State.stoppedStage]

theorem State.moveEach_stop_isRunning (l : List Slot) (s : State) (i : Slot) :
    (s.moveEach State.stopSlot l).isRunning i = (s.isRunning i && !l.contains i) := by
  rw [State.isRunning_of_slot (State.moveEach_stop_slot l s i)]
  by_cases hi : i ∈ l <;> cases hr : s.isRunning i <;>
    simp_all [State.stoppedStage, StageState.running, State.isRunning, State.stageState]

theorem State.stopAll_isRunning (s : State) (i : Slot) : s.stopAll.isRunning i = false := by
  simp [State.stopAll, State.moveEach_stop_isRunning, mem_allSlots]

/-- R15, R150: stops to the fallback cap leave the staged load within it, when every running stage is
among those asked. -/
theorem State.moveEach_stopToCap (l : List Slot) (s : State)
    (h : s.stagedLoad ≤ s.cfg.cap ∨ ∀ i, s.isRunning i = true → i ∈ l) :
    (s.moveEach (fun s i => if s.cfg.cap < s.stagedLoad then s.stopSlot i else s) l).stagedLoad ≤
      s.cfg.cap := by
  induction l generalizing s with
  | nil =>
    rcases h with h | h
    · exact h
    · have none : s.stagedLoad = 0 := State.stagedLoad_zero fun i => by simpa using h i
      exact none ▸ Nat.zero_le _
  | cons j rest ih =>
    have step (t : State) (hc : t.config = s.config)
        (ht : t.stagedLoad ≤ s.cfg.cap ∨ ∀ i, t.isRunning i = true → i ∈ rest) :
        ((t.reportMove s).moveEach
          (fun s i => if s.cfg.cap < s.stagedLoad then s.stopSlot i else s) rest).stagedLoad ≤
          s.cfg.cap := by
      have config := (t.reportMove_config s).trans hc
      have runs (i : Slot) := State.isRunning_congr (t.reportMove_stage s).1 i
      have below : t.Below (t.reportMove s) := ⟨t.reportMove_config s, fun i hi => runs i ▸ hi⟩
      rw [← State.cfg_congr config] at ht ⊢
      refine ih _ ?_
      rcases ht with ht | ht
      · exact .inl (Nat.le_trans below.stagedLoad ht)
      · exact .inr fun i hi => ht i (runs i ▸ hi)
    rw [State.moveEach_cons]
    split
    · rename_i exceeds
      refine step _ (by rw [s.stopSlot_eq j]) (.inr fun i hi => ?_)
      rw [State.isRunning_stopSlot, Bool.and_eq_true, bne_iff_ne] at hi
      rcases h with h | h
      · omega
      · simpa [hi.2] using h i hi.1
    · rename_i fits
      exact step s rfl (.inl (by omega))

/-! ## The running order list -/

theorem State.orderLaw_iff (s : State) : s.orderLaw = true ↔
    s.stage.order.Nodup ∧ ∀ i, i ∈ s.stage.order ↔ s.isRunning i = true := by
  simp only [State.orderLaw, Bool.and_eq_true, decide_eq_true_eq, List.all_eq_true, beq_iff_eq]
  refine and_congr_right fun _ => ⟨fun h i => ?_, fun h i _ => ?_⟩
  · rw [← h i (mem_allSlots i), List.contains_iff_mem]
  · rw [Bool.eq_iff_iff, List.contains_iff_mem, h i]

/-- The law depends on the list and on which stages run. -/
theorem State.orderLaw_congr {s t : State} (order : t.stage.order = s.stage.order)
    (runs : ∀ i, t.isRunning i = s.isRunning i) (h : s.orderLaw = true) : t.orderLaw = true := by
  rw [State.orderLaw_iff] at h ⊢
  simpa only [order, runs] using h

/-- A stage that leaves the running states leaves the list. -/
theorem State.orderLaw_removed {s t : State} {i : Slot}
    (order : t.stage.order = s.stage.order.filter (fun j => j != i))
    (runs : ∀ j, t.isRunning j = (s.isRunning j && j != i)) (h : s.orderLaw = true) :
    t.orderLaw = true := by
  rw [State.orderLaw_iff] at h ⊢
  refine ⟨order ▸ h.1.filter _, fun j => ?_⟩
  rw [order, runs, List.mem_filter, h.2 j, Bool.and_eq_true]

theorem State.orderLaw_stopSlot (s : State) (i : Slot) (h : s.orderLaw = true) :
    (s.stopSlot i).orderLaw = true := by
  by_cases hr : s.isRunning i = true
  · exact State.orderLaw_removed (by rw [State.stopSlot_order, if_pos hr])
      (State.isRunning_stopSlot s i) h
  · rw [State.stopSlot, if_neg hr]
    exact h

theorem State.orderLaw_trip (s : State) (i : Slot) (cause : Category) (h : s.orderLaw = true) :
    (s.trip i cause).orderLaw = true := by
  by_cases hr : s.isRunning i = true
  · refine State.orderLaw_removed (i := i) ?_ (fun j => s.isRunning_trip i j cause) h
    rw [s.trip_stage i cause, if_pos hr, StageCtl.takeOut_order]
  · rw [State.trip, if_neg hr]
    exact h

theorem State.orderLaw_startSlot (s : State) (i : Slot) (hi : s.isRunning i = false)
    (h : s.orderLaw = true) : (s.startSlot i).orderLaw = true := by
  rw [State.orderLaw_iff] at h ⊢
  have fresh : i ∉ s.stage.order := by rw [h.2 i, hi]; decide
  rw [State.startSlot_order]
  refine ⟨?_, fun j => ?_⟩
  · rw [List.nodup_append]
    exact ⟨h.1, by simp, fun a ha b hb => by
      rintro rfl
      exact fresh (List.mem_singleton.1 hb ▸ ha)⟩
  · rw [State.isRunning_startSlot, List.mem_append, h.2 j, List.mem_singleton, Bool.or_eq_true,
      beq_iff_eq]

theorem State.orderLaw_setSlot (s : State) (i : Slot) (r : Stage)
    (hr : r.state.running = s.isRunning i) (h : s.orderLaw = true) :
    (s.setSlot i r).orderLaw = true := by
  refine State.orderLaw_congr (State.setSlot_order s i r) (fun j => ?_) h
  rw [State.isRunning_setSlot]
  split
  · rename_i hj
    rw [hj, hr]
  · rfl

theorem State.orderLaw_unclaimSlot (s : State) (i : Slot) (h : s.orderLaw = true) :
    (s.unclaimSlot i).orderLaw = true := by
  refine State.orderLaw_congr ?_ (s.isRunning_unclaimSlot i) h
  unfold State.unclaimSlot
  split <;> rfl

theorem State.orderLaw_keeps : State.Keeps (fun s => s.orderLaw = true) where
  mode _ _ h := h
  denials _ h := h
  fan s on h := State.orderLaw_congr (s.fanCommanded_stage on).2
    (State.isRunning_congr (s.fanCommanded_stage on).1) h
  request s h := State.orderLaw_congr (by simp) (State.isRunning_congr (by simp)) h
  stop := State.orderLaw_stopSlot

/-- Nothing running and an empty list keep the law. -/
theorem State.orderLaw_idle {s : State} (order : s.stage.order = [])
    (runs : ∀ i, s.isRunning i = false) : s.orderLaw = true := by
  rw [State.orderLaw_iff, order]
  exact ⟨List.nodup_nil, fun i => by simp [runs i]⟩

/-! ## The entries' own operations -/

/-- What R7 makes of the Admission Unit: IDLE, no claim, its timers stopped. -/
def Admission.idled (a : Admission) : Admission :=
  { a with state := .idle, claim := none, settle := none, holdoff := none }

theorem State.admissionIdle_keeps {P : State → Prop} (k : State.Keeps P)
    (unclaim : ∀ (s : State) (i : Slot), P s → P (s.unclaimSlot i)) (s : State)
    (h : P { s with adm := s.adm.idled }) : P s.admissionIdle :=
  State.moveEach_keeps k _ unclaim _ _ h

theorem State.stopToCap_keeps {P : State → Prop} (k : State.Keeps P) (s : State) (h : P s) :
    P s.stopToCap := by
  refine State.moveEach_keeps k _ (fun s i h => ?_) _ s h
  split
  · exact k.stop s i h
  · exact h

theorem State.stopAll_keeps {P : State → Prop} (k : State.Keeps P) (s : State) (h : P s) :
    P s.stopAll := State.moveEach_keeps k _ k.stop _ s h

/-- The station as an entry sets it (R4). -/
theorem State.setStation_station (s : State) (new : StationState) (cause : IsolationCause) :
    (s.setStation new cause).station = { s.station with state := new, cause := cause } := by
  unfold State.setStation
  dsimp only
  split <;> rfl

/-- An entry's station state and what it does to the Link Controller. -/
theorem State.setStation_eq (s : State) (new : StationState) (cause : IsolationCause) :
    s.setStation new cause = { s with
      station.state := new, station.cause := cause, link := (s.setStation new cause).link } := by
  unfold State.setStation
  dsimp only
  split <;> rfl

end Sys2Proof.Machine

/-! # The laws of station control, admission and load (R4, R6, R68, R69, R88, R136, R143) -/

namespace Sys2Proof.Machine

/-! ## What the entries leave of station control -/

theorem State.stageFrame.station_eq {s t : State} (h : s.stageFrame t) : t.station = s.station := by
  rw [h.1]

theorem State.stageFrame.config_eq {s t : State} (h : s.stageFrame t) : t.config = s.config := by
  rw [h.1]

/-- R7 at the Admission Unit and its slots is an event of the plant. -/
theorem State.admissionIdle_stageFrame (s : State) : s.stageFrame s.admissionIdle :=
  State.stageFrame_trans (s.stageFrame_plant s.adm.idled s.mode s.stage s.fault s.pins)
    (State.moveEach_frame _ State.unclaimSlot_frame _ _)

/-- The end of an entry: R7's effects, the STATE request and the evaluation. -/
theorem State.entryEnd_frame (s before : State) :
    s.stageFrame (s.admissionIdle.requestState.entered before) :=
  State.stageFrame_trans (State.stageFrame_trans s.admissionIdle_stageFrame
    (State.requestState_frame _ false)) (State.entered_frame _ before)

/-- Beyond the station state it sets, an entry into SHARING or SOLO is an event of the plant. -/
theorem State.enterWorking_entry (s : State) (new : StationState) :
    (s.setStation new .none).stageFrame (s.enterWorking new) := State.entryEnd_frame _ s

theorem State.enterShutdown_entry (s : State) :
    (s.setStation .shutdown .none).stageFrame s.enterShutdown :=
  State.stageFrame_trans (State.stopAll_frame _) (State.entryEnd_frame _ s)

/-- The entry into ISOLATED but for its raise. -/
def State.isolatedQuietly (s : State) (cause : IsolationCause) : State :=
  (s.setStation .isolated cause).stopToCap.admissionIdle.requestState.entered s

theorem State.enterIsolated_silent (s : State) :
    s.enterIsolated .silent = (s.isolatedQuietly .silent).raise .linkSilent := rfl

theorem State.enterIsolated_of_ne (s : State) {cause : IsolationCause} (h : cause ≠ .silent) :
    s.enterIsolated cause = s.isolatedQuietly cause := by
  cases cause with
  | silent => exact absurd rfl h
  | none => exact rfl
  | transmit => exact rfl
  | duplicate => exact rfl

/-- What holds of the entry but for its raise, and is kept by a raise, holds of the entry. -/
theorem State.enterIsolated_of {P : State → Prop} (s : State) (cause : IsolationCause)
    (raise : ∀ t : State, P t → P (t.raise .linkSilent)) (h : P (s.isolatedQuietly cause)) :
    P (s.enterIsolated cause) := by
  by_cases hc : cause = .silent
  · subst hc
    rw [State.enterIsolated_silent]
    exact raise _ h
  · rw [State.enterIsolated_of_ne s hc]
    exact h

theorem State.isolatedQuietly_entry (s : State) (cause : IsolationCause) :
    (s.setStation .isolated cause).stageFrame (s.isolatedQuietly cause) := by
  unfold State.isolatedQuietly
  exact State.stageFrame_trans (State.stopToCap_frame _) (State.entryEnd_frame _ s)

theorem State.enterIsolated_entry (s : State) (cause : IsolationCause) :
    (s.setStation .isolated cause).stageFrame (s.enterIsolated cause) :=
  s.enterIsolated_of cause (fun t h => State.stageFrame_trans h (t.raise_frame _))
    (s.isolatedQuietly_entry cause)

/-- The stations that the entries leave. -/
theorem State.enterWorking_station (s : State) (new : StationState) :
    (s.enterWorking new).station = { s.station with state := new, cause := .none } :=
  (s.enterWorking_entry new).station_eq.trans (s.setStation_station new .none)

theorem State.enterShutdown_station (s : State) :
    s.enterShutdown.station = { s.station with state := .shutdown, cause := .none } :=
  s.enterShutdown_entry.station_eq.trans (s.setStation_station .shutdown .none)

theorem State.enterIsolated_station (s : State) (cause : IsolationCause) :
    (s.enterIsolated cause).station = { s.station with state := .isolated, cause := cause } :=
  (s.enterIsolated_entry cause).station_eq.trans (s.setStation_station .isolated cause)

/-- R22, R39: what entry to LEFT does to the Link Controller. -/
def State.askLeave (s : State) : State := State.serveLink { s with link := s.link.leave }

@[simp] theorem State.askLeave_station (s : State) : s.askLeave.station = s.station := rfl
@[simp] theorem State.askLeave_adm (s : State) : s.askLeave.adm = s.adm := rfl
@[simp] theorem State.askLeave_config (s : State) : s.askLeave.config = s.config := rfl
@[simp] theorem State.askLeave_stage (s : State) : s.askLeave.stage = s.stage := rfl

/-- LEFT as entered, with the LEAVE frame asked for, but for its evaluation. -/
def State.leftQuietly (s : State) : State :=
  (s.setStation .left .none).stopAll.admissionIdle.askLeave

theorem State.enterLeft_eq (s : State) : s.enterLeft = s.leftQuietly.entered s := rfl

theorem State.leftQuietly_station (s : State) :
    s.leftQuietly.station = { s.station with state := .left, cause := .none } := by
  rw [State.leftQuietly, State.askLeave_station, (State.admissionIdle_stageFrame _).station_eq,
    (State.stopAll_frame _).station_eq, State.setStation_station]

theorem State.enterLeft_station (s : State) :
    s.enterLeft.station = { s.station with state := .left, cause := .none } := by
  rw [State.enterLeft_eq, (State.entered_frame s.leftQuietly s).station_eq, s.leftQuietly_station]

/-- JOINING as entered, but for its STATE request and evaluation. -/
def State.joiningQuietly (s : State) (cfg : ConfigRecord) : State :=
  { s with
    station := { s.station with
      state := .joining, cause := .none, join := some joinTime, silence := none }
    link := { s.link with
      rxOn := true, txOn := true, rx := .discard, afterFrame := false, idle := false
      report := some reportPeriod }
    table := RoofTable.joining cfg
    stage := s.stage.joining cfg
    mode :=
      { ModeLogic.start with
        zoneTemp := s.mode.zoneTemp, zoneSource := s.mode.zoneSource, side := s.mode.side,
        level := s.mode.level, damperTimer := some damperPeriod } }

theorem State.enterJoining_eq (s : State) (cfg : ConfigRecord) :
    s.enterJoining cfg = ((s.joiningQuietly cfg).requestState true).evaluate := rfl

theorem State.enterJoining_entry (s : State) (cfg : ConfigRecord) :
    (s.joiningQuietly cfg).stageFrame (s.enterJoining cfg) :=
  State.stageFrame_trans (State.requestState_frame _ true) (State.evaluate_frame _ .plain)

/-- The blocks as a restart sets them, but for the entry into JOINING. -/
def State.restarted (s : State) : State :=
  { s with
    station := .start
    link := s.link.restart
    table := .start
    adm := .start
    mode := .start
    stage := s.stage.restart
    scan := s.scan.restart
    inputs := inputsAfresh s.cfg
    svc := .start }

theorem State.doRestart_eq (s : State) :
    s.doRestart = match s.config with
      | some cfg => s.restarted.enterJoining cfg
      | none => s.restarted := rfl

/-! ## The isolation cause -/

/-- R4: the isolation cause of a state. -/
def State.causeLaw (s : State) : Prop := s.station.causeLaw = true

theorem State.causeLaw_of_station {s t : State} (e : t.station = s.station) (h : s.causeLaw) :
    t.causeLaw := by
  rw [State.causeLaw, e]
  exact h

theorem State.stageFrame.causeLaw {s t : State} (f : s.stageFrame t) (h : s.causeLaw) :
    t.causeLaw := State.causeLaw_of_station f.station_eq h

theorem State.Decision.frame {s t : State} {i : Slot} (d : s.Decision i t) : s.stageFrame t := by
  cases d with
  | claim => exact State.stageFrame_trans ⟨rfl, rfl⟩ (State.openClaim_frame _ _ _)
  | shed => exact State.stageFrame_trans ⟨rfl, rfl⟩ (State.callShed_frame _ _ _)
  | denied => exact State.stageFrame_trans ⟨rfl, rfl⟩ (State.deny_frame _ _)
  | granted => exact State.stageFrame_trans ⟨rfl, rfl⟩ (State.grant_frame _ _ _)

theorem State.enterJoining_station (s : State) (cfg : ConfigRecord) :
    (s.enterJoining cfg).station = { s.station with
      state := .joining, cause := .none, join := some joinTime, silence := none } :=
  (s.enterJoining_entry cfg).station_eq

theorem State.causeLaw_invariant : State.Invariant State.causeLaw where
  core h e := by
    unfold State.causeLaw StationCtl.causeLaw at *
    rw [e.state, e.cause]
    exact h
  denials _ h := h
  timers _ _ _ _ h := h
  stop s i h := (s.stopSlot_frame i).causeLaw h
  trip s i cause h := (s.trip_frame i cause).causeLaw h
  shift _ _ _ _ _ h := h
  decide _ _ _ h _ _ _ d := d.frame.causeLaw h
  settle s c _ h := by
    have closed := s.closeClaim_frame.causeLaw h
    exact ⟨closed, (State.grant_frame _ c.slot c.intended).causeLaw closed, closed⟩
  release _ _ h := h
  spacing _ h := h
  isolate s cause hc _ := by
    simp [State.causeLaw, State.enterIsolated_station, StationCtl.causeLaw, hc]
  recause s cause hs hc _ := by
    simp [State.causeLaw, StationCtl.causeLaw, hs, hc]
  shutdown s _ := by simp [State.causeLaw, State.enterShutdown_station, StationCtl.causeLaw]
  leave s _ := by simp [State.causeLaw, State.enterLeft_station, StationCtl.causeLaw]
  work s new hn _ := by
    rcases hn with rfl | rfl <;>
      simp [State.causeLaw, State.enterWorking_station, StationCtl.causeLaw]
  join s cfg _ _ := by simp [State.causeLaw, State.enterJoining_station, StationCtl.causeLaw]
  restart s _ := by
    rw [State.doRestart_eq]
    split
    · simp [State.causeLaw, State.enterJoining_station, StationCtl.causeLaw]
    · rfl
  record _ _ _ h := h
  reset := rfl

/-! ## The Admission Unit's states and timers -/

theorem Admission.law_iff (a : Admission) : a.law = true ↔
    (a.claim.isSome = true ↔ a.state = .settling) ∧ (a.settle.isSome = true ↔ a.state = .settling) ∧
      (a.holdoff.isSome = true ↔ a.state = .holdoff ∨ a.state = .shedWait) := by
  simp only [Admission.law, Bool.and_eq_true, beq_iff_eq, and_assoc]
  refine and_congr ?_ (and_congr ?_ ?_) <;> rw [Bool.eq_iff_iff] <;> simp

/-- R68: the law of the Admission Unit, of a state. -/
def State.admLaw (s : State) : Prop := s.adm.law = true

theorem State.admLaw_of_adm {s t : State} (e : t.adm = s.adm) (h : s.admLaw) : t.admLaw := by
  rw [State.admLaw, e]
  exact h

/-- In IDLE no claim is open and neither timer runs. -/
theorem State.admLaw.idle {s : State} (h : s.admLaw) (hi : s.adm.state = .idle) :
    s.adm.claim = none ∧ s.adm.settle = none ∧ s.adm.holdoff = none := by
  simpa [State.admLaw, Admission.law_iff, hi] using h

/-- With a claim open the holdoff timer is stopped. -/
theorem State.admLaw.holdoff_of_claim {s : State} {c : OpenClaim} (h : s.admLaw)
    (hc : s.adm.claim = some c) : s.adm.holdoff = none := by
  obtain ⟨claim, _, holdoff⟩ := (Admission.law_iff _).1 h
  simpa [claim.1 (by simp [hc])] using holdoff

theorem State.fanCommanded_adm (s : State) (on : Bool) : (s.fanCommanded on).adm = s.adm := by
  rw [s.fanCommanded_eq on]

theorem State.unclaimSlot_adm (s : State) (i : Slot) : (s.unclaimSlot i).adm = s.adm := by
  rw [s.unclaimSlot_eq i]

theorem State.startSlot_adm (s : State) (i : Slot) : (s.startSlot i).adm = s.adm := by
  rw [s.startSlot_eq i]

theorem State.grantMode_adm (s : State) (m : Intended) : (s.grantMode m).adm = s.adm := by
  unfold State.grantMode
  cases m <;> dsimp only <;> split <;> simp

theorem State.grant_adm (s : State) (i : Slot) (m : Intended) :
    (s.grant i m).adm = { s.adm with denials := 0 } := by
  rw [State.grant, State.grantMode_adm, State.startSlot_adm]

theorem State.admLaw_keeps : State.Keeps State.admLaw where
  mode _ _ h := h
  denials _ h := h
  fan s on h := State.admLaw_of_adm (s.fanCommanded_adm on) h
  request s h := State.admLaw_of_adm (by simp) h
  stop s i h := State.admLaw_of_adm (by simp) h

/-- After R7 the unit is IDLE and its law holds. -/
theorem State.admissionIdle_admLaw (s : State) : s.admissionIdle.admLaw :=
  State.admissionIdle_keeps State.admLaw_keeps
    (fun s i h => State.admLaw_of_adm (s.unclaimSlot_adm i) h) s rfl

theorem State.closeClaim_adm (s : State) :
    s.closeClaim.adm = { s.adm with claim := none, settle := none, state := .idle } := by
  simp [State.closeClaim]

theorem State.admLaw_decision {s t : State} {i : Slot} (h : s.admLaw) (hi : s.adm.state = .idle)
    (d : s.Decision i t) : t.admLaw := by
  obtain ⟨claim, settle, holdoff⟩ := h.idle hi
  rw [State.admLaw, Admission.law_iff]
  cases d with
  | claim level headroom => simp [State.openClaim, State.judged, holdoff]
  | shed level headroom needed => simp [State.callShed, State.judged, claim, settle]
  | denied level headroom => simp [State.deny, State.judged, claim, settle]
  | granted level headroom mode =>
    simp [State.grant_adm, State.judged, claim, settle, holdoff, hi]

theorem State.raise_admLaw {s : State} (c : Category) (h : s.admLaw) : (s.raise c).admLaw :=
  State.admLaw_of_adm (by simp) h

/-- An entry's end, from the idled Admission Unit on. -/
theorem State.entryEnd_keeps {P : State → Prop} (k : State.Keeps P) (s before : State)
    (h : P s.admissionIdle) : P (s.admissionIdle.requestState.entered before) :=
  State.entered_keeps k _ before (k.request _ h)

theorem State.isolatedQuietly_admLaw (s : State) (cause : IsolationCause) :
    (s.isolatedQuietly cause).admLaw :=
  State.entryEnd_keeps State.admLaw_keeps _ s (State.admissionIdle_admLaw _)

theorem State.leftQuietly_admLaw (s : State) : s.leftQuietly.admLaw :=
  State.admLaw_of_adm (State.askLeave_adm _) (State.admissionIdle_admLaw _)

/-- JOINING keeps the Admission Unit, but for its denials. -/
theorem State.enterJoining_admLaw {s : State} (cfg : ConfigRecord) (h : s.admLaw) :
    (s.enterJoining cfg).admLaw :=
  State.evaluate_keeps State.admLaw_keeps _ .plain
    (State.admLaw_of_adm (State.requestState_adm _ true) h)

theorem State.admLaw_invariant : State.Invariant State.admLaw where
  core h e := State.admLaw_of_adm e.adm h
  denials _ h := h
  timers _ _ _ _ h := h
  stop s i h := State.admLaw_keeps.stop s i h
  trip s i cause h := State.admLaw_of_adm (s.trip_adm i cause) h
  shift _ _ _ _ _ h := h
  decide _ _ _ h _ hi _ d := State.admLaw_decision h hi d
  settle s c hc h := by
    have holdoff := h.holdoff_of_claim hc
    simp [State.admLaw, Admission.law_iff, State.readySlot, State.deny, State.grant_adm,
      State.closeClaim_adm, holdoff]
  release s hs h := by
    obtain ⟨claim, settle, _⟩ := (Admission.law_iff _).1 h
    rw [State.admLaw, Admission.law_iff]
    rcases hs with hs | hs <;> simp_all
  spacing _ h := h
  isolate s cause _ _ :=
    s.enterIsolated_of cause (fun _ => State.raise_admLaw _) (s.isolatedQuietly_admLaw cause)
  recause _ _ _ _ h := h
  shutdown s _ := State.entryEnd_keeps State.admLaw_keeps _ s (State.admissionIdle_admLaw _)
  leave s _ := by
    rw [State.enterLeft_eq]
    exact State.entered_keeps State.admLaw_keeps _ s s.leftQuietly_admLaw
  work s _ _ _ := State.entryEnd_keeps State.admLaw_keeps _ s (State.admissionIdle_admLaw _)
  join _ cfg _ h := State.enterJoining_admLaw cfg h
  restart s _ := by
    rw [State.doRestart_eq]
    split
    · exact State.enterJoining_admLaw _ (s := s.restarted) rfl
    · rfl
  record _ _ _ h := h
  reset := rfl

/-- Settles O55: the cause by the station every operation leaves, the timers by the writes of the
Admission Unit. -/
theorem causeAndAdmissionLawsAlways : Obligations.CauseAndAdmissionLawsAlways :=
  ⟨fun _ _ h => State.causeLaw_invariant.step (fun _ _ _ h => h) h,
    fun _ _ h => State.admLaw_invariant.step (fun _ _ _ h => h) h⟩

end Sys2Proof.Machine

/-! # The load law, with the laws it needs (R6, R69, R88, R136, R143)

Claims are open for CLAIMED slots, running stages are listed, and the staged load keeps within what the
station state allows: shown together, since a grant needs its slot stopped and its claim closed. -/

namespace Sys2Proof.Machine

/-! ## The claim -/

theorem State.claimLaw_iff (s : State) : s.claimLaw = true ↔
    ∀ c, s.adm.claim = some c → s.station.state = .sharing ∧ s.stageState c.slot = .claimed := by
  unfold State.claimLaw
  cases s.adm.claim with
  | none => simp
  | some c => simp

theorem State.claimLaw_closed {s : State} (h : s.adm.claim = none) : s.claimLaw = true := by
  rw [State.claimLaw_iff]
  simp [h]

/-- The law is kept where the claim, the station state and the CLAIMED slots stay. -/
theorem State.claimLaw_of_claimed {s t : State} (claim : t.adm.claim = s.adm.claim)
    (station : t.station.state = s.station.state)
    (slots : ∀ i, s.stageState i = .claimed → t.stageState i = .claimed) (h : s.claimLaw = true) :
    t.claimLaw = true := by
  rw [State.claimLaw_iff] at h ⊢
  rw [claim, station]
  exact fun c hc => ⟨(h c hc).1, slots _ (h c hc).2⟩

theorem State.claimed_setSlot {s : State} {i j : Slot} (r : Stage) (hi : s.stageState i ≠ .claimed)
    (hj : s.stageState j = .claimed) : (s.setSlot i r).stageState j = .claimed := by
  rw [State.stageState, State.slot_setSlot, if_neg (by rintro rfl; exact hi hj)]
  exact hj

theorem State.not_claimed_of_running {s : State} {i : Slot} (h : s.isRunning i = true) :
    s.stageState i ≠ .claimed := by
  intro hc
  simp [State.isRunning, hc, StageState.running] at h

theorem State.claimed_stopSlot {s : State} (i : Slot) {j : Slot} (hj : s.stageState j = .claimed) :
    (s.stopSlot i).stageState j = .claimed := by
  rw [State.stageState, State.stopSlot_slot, if_neg]
  · exact hj
  · rintro ⟨rfl, hr⟩
    exact State.not_claimed_of_running hr hj

theorem State.claimed_trip {s : State} (i : Slot) (cause : Category) {j : Slot}
    (hj : s.stageState j = .claimed) : (s.trip i cause).stageState j = .claimed := by
  by_cases hr : s.isRunning i = true
  · have slots : (s.trip i cause).stage.slots =
        ({ s with stage := s.stage.takeOut i (s.trippedStage i) } : State).stage.slots := by
      rw [s.trip_stage i cause, if_pos hr]
    rw [State.stageState_congr slots, State.stageState, State.slot_takeOut, if_neg]
    · exact hj
    · rintro rfl
      exact State.not_claimed_of_running hr hj
  · rw [State.trip, if_neg hr]
    exact hj

/-! ## The load -/

/-- R6: what the station state allows to run. -/
theorem State.loadLaw_iff (s : State) : s.loadLaw = true ↔
    (s.station.state = .isolated → s.stagedLoad ≤ s.cfg.cap) ∧
      (s.station.state.working = false → ∀ i, s.isRunning i = false) := by
  have all : (allSlots.all fun i => !s.isRunning i) = true ↔ ∀ i, s.isRunning i = false := by
    simp only [List.all_eq_true, Bool.not_eq_true']
    exact ⟨fun h i => h i (mem_allSlots i), fun h i _ => h i⟩
  unfold State.loadLaw
  cases hs : s.station.state <;> simp [StationState.working, all]

theorem State.Below.loadLaw {s t : State} (b : s.Below t)
    (station : t.station.state = s.station.state) (h : s.loadLaw = true) : t.loadLaw = true := by
  rw [State.loadLaw_iff] at h ⊢
  rw [station, State.cfg_congr b.config]
  refine ⟨fun hi => Nat.le_trans b.stagedLoad (h.1 hi), fun hw i => ?_⟩
  cases hr : t.isRunning i with
  | false => rfl
  | true => exact absurd (b.runs i hr) (by simp [h.2 hw i])

theorem State.loadLaw_idle {s : State} (h : ∀ i, s.isRunning i = false) : s.loadLaw = true := by
  rw [State.loadLaw_iff]
  exact ⟨fun _ => State.stagedLoad_zero h ▸ Nat.zero_le _, fun _ => h⟩

/-- In SHARING and SOLO the law allows every load. -/
theorem State.loadLaw_free {s : State} (h : s.station.state = .sharing ∨ s.station.state = .solo) :
    s.loadLaw = true := by
  rw [State.loadLaw_iff]
  rcases h with h | h <;> simp [h, StationState.working]

/-! ## The laws together -/

/-- The laws of the plant that hold together (R6, R68, R69, R136). -/
structure State.PlantLaws (s : State) : Prop where
  adm : s.admLaw
  order : s.orderLaw = true
  claim : s.claimLaw = true
  load : s.loadLaw = true

/-- What holds the laws but for the running order list: no claim, no stage running. -/
theorem State.PlantLaws.idle {s : State} (adm : s.admLaw) (order : s.stage.order = [])
    (closed : s.adm.claim = none) (runs : ∀ i, s.isRunning i = false) : s.PlantLaws :=
  ⟨adm, State.orderLaw_idle order runs, State.claimLaw_closed closed, State.loadLaw_idle runs⟩

/-- The laws look at nothing but the Admission Unit's law and claim, the record, the station state, the
slots and the running order list. -/
theorem State.PlantLaws.same {s t : State} (h : s.PlantLaws) (adm : t.admLaw)
    (claim : t.adm.claim = s.adm.claim) (config : t.config = s.config)
    (station : t.station.state = s.station.state) (slots : t.stage.slots = s.stage.slots)
    (order : t.stage.order = s.stage.order) : t.PlantLaws := by
  have runs := State.isRunning_congr slots
  have below : s.Below t := ⟨config, fun i hi => runs i ▸ hi⟩
  exact ⟨adm, State.orderLaw_congr order runs h.order,
    State.claimLaw_of_claimed claim station
      (fun i hi => (State.stageState_congr slots i).trans hi) h.claim,
    below.loadLaw station h.load⟩

theorem State.plantLaws_keeps : State.Keeps State.PlantLaws where
  mode _ _ h := h.same h.adm rfl rfl rfl rfl rfl
  denials _ h := h.same h.adm rfl rfl rfl rfl rfl
  fan s on h := h.same (State.admLaw_keeps.fan s on h.adm) (by rw [s.fanCommanded_adm on])
    (s.fanCommanded_frame on).config_eq (by rw [(s.fanCommanded_frame on).station_eq])
    (s.fanCommanded_stage on).1 (s.fanCommanded_stage on).2
  request s h := h.same (State.admLaw_keeps.request s h.adm) (by simp) (by simp) (by simp) (by simp)
    (by simp)
  stop s i h := by
    have station : (s.stopSlot i).station.state = s.station.state := by
      rw [(s.stopSlot_frame i).station_eq]
    exact ⟨State.admLaw_keeps.stop s i h.adm, State.orderLaw_keeps.stop s i h.order,
      State.claimLaw_of_claimed (by simp) station (fun _ => State.claimed_stopSlot i) h.claim,
      ((State.below_keeps s).stop s i (.refl s)).loadLaw station h.load⟩

/-- A slot written that stays stopped, or keeps running, and whose claim, if it had one, is closed. -/
theorem State.PlantLaws.setSlot {s : State} {i : Slot} {r : Stage}
    (running : r.state.running = s.isRunning i)
    (claimed : s.stageState i ≠ .claimed ∨ s.adm.claim = none) (h : s.PlantLaws) :
    (s.setSlot i r).PlantLaws := by
  have below : s.Below (s.setSlot i r) := by
    refine ⟨rfl, fun j hj => ?_⟩
    rw [State.isRunning_setSlot] at hj
    split at hj
    · rename_i e
      rw [e, ← running]
      exact hj
    · exact hj
  refine ⟨h.adm, State.orderLaw_setSlot s i r running h.order, ?_, below.loadLaw rfl h.load⟩
  rcases claimed with hi | hc
  · exact State.claimLaw_of_claimed (s := s) rfl rfl (fun _ => State.claimed_setSlot r hi) h.claim
  · exact State.claimLaw_closed hc

/-- R143: a start of a stopped slot with no claim open, within the cap if ISOLATED. -/
theorem State.PlantLaws.startSlot {s : State} {i : Slot} (stopped : s.isRunning i = false)
    (closed : s.adm.claim = none) (working : s.station.state.working = true)
    (fits : s.station.state = .isolated → s.stagedLoad + s.increment i ≤ s.cfg.cap)
    (h : s.PlantLaws) : (s.startSlot i).PlantLaws := by
  have frame := s.startSlot_frame i
  refine ⟨State.admLaw_of_adm (s.startSlot_adm i) h.adm, s.orderLaw_startSlot i stopped h.order,
    State.claimLaw_closed (by rw [s.startSlot_adm i, closed]), ?_⟩
  rw [State.loadLaw_iff, frame.station_eq, State.cfg_congr frame.config_eq]
  refine ⟨fun hi => Nat.le_trans (s.stagedLoad_startSlot i) (fits hi), fun hw => ?_⟩
  rw [working] at hw
  cases hw

/-- R119: the mode of a grant touches no law. -/
theorem State.PlantLaws.grantMode {s : State} (m : Intended) (h : s.PlantLaws) :
    (s.grantMode m).PlantLaws := by
  have set (u : UnitMode) : State.PlantLaws (if s.mode.mode = u then s
      else State.requestState { s with mode.mode := u, mode.fullOpen := .stopped }) := by
    split
    · exact h
    · exact State.plantLaws_keeps.request _ (State.plantLaws_keeps.mode s _ h)
  cases m with
  | none => exact h
  | cool => exact set .cool
  | heat => exact set .heat

/-- R74, R83: a grant to a stopped slot with no claim left, within the cap if ISOLATED. -/
theorem State.PlantLaws.grant {s : State} {i : Slot} (m : Intended) (stopped : s.isRunning i = false)
    (closed : s.adm.claim = none) (working : s.station.state.working = true)
    (fits : s.station.state = .isolated → s.stagedLoad + s.increment i ≤ s.cfg.cap)
    (h : s.PlantLaws) : (s.grant i m).PlantLaws := by
  have ready : ({ s with adm.denials := 0, stage.presented := none } : State).PlantLaws :=
    h.same h.adm rfl rfl rfl rfl rfl
  refine State.PlantLaws.grantMode m (ready.startSlot ?_ ?_ ?_ ?_)
  · exact stopped
  · exact closed
  · exact working
  · exact fits

theorem State.PlantLaws.openClaim {s : State} {i : Slot} (level : Nat)
    (ready : s.stageState i = .ready) (idle : s.adm.state = .idle)
    (sharing : s.station.state = .sharing) (h : s.PlantLaws) : (s.openClaim i level).PlantLaws := by
  obtain ⟨_, _, holdoff⟩ := h.adm.idle idle
  unfold State.openClaim
  refine State.plantLaws_keeps.request _ ⟨?_, ?_, ?_, ?_⟩
  · simp [State.admLaw, Admission.law_iff, holdoff]
  · exact State.orderLaw_congr (s := s.setSlot i { s.slot i with state := .claimed }) rfl
      (fun _ => rfl) (State.orderLaw_setSlot s i _
        (by simp [State.isRunning, ready, StageState.running]) h.order)
  · rw [State.claimLaw_iff]
    rintro c ⟨⟩
    refine ⟨sharing, ?_⟩
    exact congrArg Stage.state (State.slot_setSlot_self s i { s.slot i with state := .claimed })
  · exact State.loadLaw_free (.inl sharing)

/-- R70 to R79: every decision of an IDLE unit on a READY slot keeps the laws. -/
theorem State.PlantLaws.decision {s t : State} {i : Slot} (ready : s.stageState i = .ready)
    (idle : s.adm.state = .idle) (working : s.station.state.working = true) (h : s.PlantLaws)
    (d : s.Decision i t) : t.PlantLaws := by
  obtain ⟨claim, _, _⟩ := h.adm.idle idle
  have judged (level : Nat) (headroom : Int) : (s.judged level headroom).PlantLaws :=
    h.same h.adm rfl rfl rfl rfl rfl
  have adm := State.admLaw_decision h.adm idle d
  cases d with
  | claim level headroom sharing => exact (judged level headroom).openClaim level ready idle sharing
  | shed level headroom needed sharing =>
    exact h.same adm (by simp [State.callShed, State.judged]) (by simp [State.callShed, State.judged])
      (by simp [State.callShed, State.judged]) (by simp [State.callShed, State.judged])
      (by simp [State.callShed, State.judged])
  | denied level headroom => exact h.same adm rfl rfl rfl rfl rfl
  | granted level headroom mode fits alone =>
    refine (judged level headroom).grant mode ?_ claim working fits
    change s.isRunning i = false
    simp [State.isRunning, ready, StageState.running]

/-! ## The entries -/

theorem State.admissionIdle_closed (s : State) : s.admissionIdle.adm.claim = none :=
  State.admissionIdle_keeps (P := fun t => t.adm.claim = none)
    { mode := fun _ _ h => h, denials := fun _ h => h
      fan := fun t on h => by rw [t.fanCommanded_adm on, h]
      request := fun t h => by rw [t.requestState_adm, h]
      stop := fun t i h => by rw [t.stopSlot_adm, h] }
    (fun t i h => by rw [t.unclaimSlot_adm, h]) s rfl

theorem State.admissionIdle_below (s : State) : s.Below s.admissionIdle :=
  State.admissionIdle_keeps (State.below_keeps s) (State.below_unclaimSlot s) s ⟨rfl, fun _ => id⟩

theorem State.admissionIdle_orderLaw {s : State} (h : s.orderLaw = true) :
    s.admissionIdle.orderLaw = true :=
  State.admissionIdle_keeps State.orderLaw_keeps State.orderLaw_unclaimSlot s h

/-- R7 on a state whose stages fit the station state brings the laws about. -/
theorem State.PlantLaws.ofIdled {s : State} (order : s.orderLaw = true) (load : s.loadLaw = true) :
    s.admissionIdle.PlantLaws :=
  ⟨s.admissionIdle_admLaw, State.admissionIdle_orderLaw order,
    State.claimLaw_closed s.admissionIdle_closed,
    s.admissionIdle_below.loadLaw (by rw [s.admissionIdle_stageFrame.station_eq]) load⟩

theorem State.setStation_stage (s : State) (new : StationState) (cause : IsolationCause) :
    (s.setStation new cause).stage = s.stage := by rw [State.setStation_eq]

theorem State.setStation_config (s : State) (new : StationState) (cause : IsolationCause) :
    (s.setStation new cause).config = s.config := by rw [State.setStation_eq]

theorem State.setStation_orderLaw {s : State} (new : StationState) (cause : IsolationCause)
    (h : s.orderLaw = true) : (s.setStation new cause).orderLaw = true :=
  State.orderLaw_congr (by rw [State.setStation_stage])
    (State.isRunning_congr (by rw [State.setStation_stage])) h

/-- R15: the stops of entry to ISOLATED bring the staged load within the fallback cap. -/
theorem State.stopToCap_fits {s : State} (h : s.orderLaw = true) :
    s.stopToCap.stagedLoad ≤ s.cfg.cap :=
  State.moveEach_stopToCap _ s <| .inr fun i hi => by
    rw [List.mem_reverse, ((State.orderLaw_iff s).1 h).2 i]
    exact hi

theorem State.isolatedQuietly_plantLaws {s : State} (cause : IsolationCause)
    (h : s.orderLaw = true) : (s.isolatedQuietly cause).PlantLaws := by
  have order := State.setStation_orderLaw .isolated cause h
  have frame := (s.setStation .isolated cause).stopToCap_frame
  refine State.entryEnd_keeps State.plantLaws_keeps _ s (.ofIdled
    (State.stopToCap_keeps State.orderLaw_keeps _ order) ((State.loadLaw_iff _).2 ⟨fun _ => ?_, ?_⟩))
  · rw [State.cfg_congr frame.config_eq]
    exact State.stopToCap_fits order
  · rw [frame.station_eq, State.setStation_station]
    intro hw
    cases hw

theorem State.enterWorking_plantLaws {s : State} {new : StationState}
    (hn : new = .sharing ∨ new = .solo) (h : s.orderLaw = true) : (s.enterWorking new).PlantLaws :=
  State.entryEnd_keeps State.plantLaws_keeps _ s (.ofIdled (State.setStation_orderLaw new .none h)
    (State.loadLaw_free (by rw [State.setStation_station]; exact hn)))

theorem State.stopAll_plantLaws {s : State} (h : s.orderLaw = true) :
    s.stopAll.admissionIdle.PlantLaws :=
  .ofIdled (State.stopAll_keeps State.orderLaw_keeps s h) (State.loadLaw_idle s.stopAll_isRunning)

theorem State.enterShutdown_plantLaws {s : State} (h : s.orderLaw = true) :
    s.enterShutdown.PlantLaws :=
  State.entryEnd_keeps State.plantLaws_keeps _ s
    (State.stopAll_plantLaws (State.setStation_orderLaw .shutdown .none h))

theorem State.PlantLaws.askLeave {s : State} (h : s.PlantLaws) : s.askLeave.PlantLaws :=
  h.same h.adm rfl rfl rfl rfl rfl

theorem State.leftQuietly_plantLaws {s : State} (h : s.orderLaw = true) :
    s.leftQuietly.PlantLaws :=
  (State.stopAll_plantLaws (State.setStation_orderLaw .left .none h)).askLeave

/-- No stage runs at entry to JOINING. -/
theorem StageCtl.joining_running (g : StageCtl) (cfg : ConfigRecord) (i : Slot) :
    ((g.joining cfg).slots.get i).state.running = false := by
  simp only [StageCtl.joining, PerSlot.get_of, Stage.joining]
  split
  · split
    · rename_i hl
      simp [hl, StageState.running]
    · rfl
  · rfl

theorem State.enterJoining_plantLaws {s : State} (cfg : ConfigRecord) (adm : s.admLaw)
    (closed : s.adm.claim = none) : (s.enterJoining cfg).PlantLaws := by
  have quiet : (s.joiningQuietly cfg).PlantLaws :=
    .idle adm rfl closed fun i => StageCtl.joining_running s.stage cfg i
  rw [State.enterJoining_eq]
  refine State.evaluate_keeps State.plantLaws_keeps _ .plain ?_
  exact quiet.same (State.admLaw_of_adm (by simp) quiet.adm) (by simp) (by simp) (by simp) (by simp)
    (by simp)

/-- No stage runs after a restart. -/
theorem StageCtl.restart_running (g : StageCtl) (i : Slot) :
    (g.restart.slots.get i).state.running = false := by
  simp only [StageCtl.restart, PerSlot.get_of]
  split <;> rfl

theorem State.doRestart_plantLaws (s : State) : s.doRestart.PlantLaws := by
  rw [State.doRestart_eq]
  split
  · exact State.enterJoining_plantLaws _ rfl rfl
  · exact .idle rfl rfl rfl fun i => StageCtl.restart_running s.stage i

/-! ## The invariant -/

theorem State.plantLaws_invariant : State.Invariant State.PlantLaws where
  core h e := h.same (State.admLaw_of_adm e.adm h.adm) (by rw [e.adm]) e.config e.state
    (by rw [e.stage]) (by rw [e.stage])
  denials := State.plantLaws_keeps.denials
  timers _ _ slots order h := h.same h.adm rfl rfl rfl slots order
  stop := State.plantLaws_keeps.stop
  trip s i cause h := by
    have frame := s.trip_frame i cause
    have below : s.Below (s.trip i cause) := ⟨frame.config_eq, fun j hj => by
      rw [State.isRunning_trip, Bool.and_eq_true] at hj
      exact hj.1⟩
    have station : (s.trip i cause).station.state = s.station.state := by rw [frame.station_eq]
    exact ⟨State.admLaw_of_adm (s.trip_adm i cause) h.adm, s.orderLaw_trip i cause h.order,
      State.claimLaw_of_claimed (by rw [s.trip_adm i cause]) station
        (fun _ => State.claimed_trip i cause) h.claim, below.loadLaw station h.load⟩
  shift _ _ _ hi hr h := h.setSlot hr (.inl hi)
  decide _ _ _ h hsel idle working d := h.decision (State.ready_of_selectable hsel) idle working d
  settle s c hc h := by
    obtain ⟨sharing, claimed⟩ := (State.claimLaw_iff s).1 h.claim c hc
    obtain ⟨readyAdm, grantAdm, denyAdm⟩ := State.admLaw_invariant.settle s c hc h.adm
    have holdoff := h.adm.holdoff_of_claim hc
    have frame := s.closeClaim_frame
    have station : s.closeClaim.station.state = .sharing := by rw [frame.station_eq, sharing]
    have slots : s.closeClaim.stage.slots = s.stage.slots := by simp [State.closeClaim]
    have none : s.closeClaim.adm.claim = none := by rw [State.closeClaim_adm]
    have stopped : s.closeClaim.isRunning c.slot = false := by
      rw [State.isRunning_congr slots]
      simp [State.isRunning, claimed, StageState.running]
    have closed : s.closeClaim.PlantLaws := by
      refine ⟨?_, State.orderLaw_congr (by simp [State.closeClaim]) (State.isRunning_congr slots)
        h.order, State.claimLaw_closed none, State.loadLaw_free (.inl station)⟩
      simp [State.admLaw, Admission.law_iff, State.closeClaim_adm, holdoff]
    have ready : (s.closeClaim.readySlot c.slot).PlantLaws :=
      closed.setSlot stopped.symm (.inr none)
    refine ⟨ready, closed.grant _ stopped none ?_ ?_, ready.same denyAdm rfl rfl rfl rfl rfl⟩
    · simp [station, StationState.working]
    · simp [station]
  release s hs h := h.same (State.admLaw_invariant.release s hs h.adm) rfl rfl rfl rfl rfl
  spacing _ h := h.same h.adm rfl rfl rfl rfl rfl
  isolate s cause _ h := s.enterIsolated_of cause
    (fun t h => h.same (State.raise_admLaw _ h.adm) (by simp) (by simp) (by simp) (by simp) (by simp))
    (State.isolatedQuietly_plantLaws cause h.order)
  recause _ _ _ _ h := h.same h.adm rfl rfl rfl rfl rfl
  shutdown _ h := State.enterShutdown_plantLaws h.order
  leave s h := by
    rw [State.enterLeft_eq]
    exact State.entered_keeps State.plantLaws_keeps _ s (State.leftQuietly_plantLaws h.order)
  work _ _ hn h := State.enterWorking_plantLaws hn h.order
  join s cfg hs h := by
    refine State.enterJoining_plantLaws cfg h.adm ?_
    cases hc : s.adm.claim with
    | none => rfl
    | some c =>
      have sharing := ((State.claimLaw_iff s).1 h.claim c hc).1
      rw [hs] at sharing
      cases sharing
  restart s _ := s.doRestart_plantLaws
  record s cfg hs h := by
    have runs := ((State.loadLaw_iff s).1 h.load).2 (by simp [hs, StationState.working])
    exact ⟨h.adm, h.order, h.claim, State.loadLaw_idle runs⟩
  reset := .idle rfl rfl rfl fun i => by cases i <;> rfl

/-- Settles O58: the laws are an invariant together, and the admission law stands with them. -/
theorem loadLawAlways : Obligations.LoadLawAlways := by
  intro s t adm order claim load hst
  have laws : t.PlantLaws := State.plantLaws_invariant.step
    (fun _ _ _ h => h.same h.adm rfl rfl rfl rfl rfl) ⟨adm, order, claim, load⟩ hst
  exact ⟨laws.order, laws.claim, laws.load⟩

end Sys2Proof.Machine

/-! # Supply, ticks, and the pins

The commands that leave an unpowered part alone (R9), the values of power-up (R8), and that the pins
follow the state they show (R9, R36, R126, R135, R196). -/

namespace Sys2Proof.Machine

/-! ## Power-up -/

theorem State.entry_start (s : State) (h : s.table = RoofTable.start) (n : Nat) :
    s.entry n = Entry.blank := by
  simp only [State.entry, h, RoofTable.start, Vector.getElem_replicate, dite_eq_ite, ite_self]

/-- Settles O3: every value is a field of `State.reset`. -/
theorem powerUpValues : Obligations.PowerUpValues := by
  intro s
  refine ⟨{ State.reset with serial := s.serial, pending := s.pending }, rfl, ?_⟩
  have entries (n : Nat) := State.entry_start
    { State.reset with serial := s.serial, pending := s.pending } rfl n
  have slots (i : Slot) : ({ State.reset with serial := s.serial, pending := s.pending } : State).slot i
      = Stage.start := by cases i <;> rfl
  have sensors (c : Channel) :
      ({ State.reset with serial := s.serial, pending := s.pending } : State).sensor c
        = Sensor.start := by cases c <;> rfl
  have inputs (r : InputRole) :
      ({ State.reset with serial := s.serial, pending := s.pending } : State).input r
        = Input.start := by cases r <;> rfl
  refine ⟨rfl, rfl, rfl, rfl, rfl, rfl, rfl, rfl, rfl, rfl, rfl, rfl, rfl, rfl, rfl, rfl, rfl, rfl,
    rfl, rfl, rfl, rfl, rfl, rfl, rfl, rfl, rfl, rfl, rfl, rfl, rfl, rfl, rfl, rfl, rfl, rfl,
    entries, rfl, rfl, rfl, slots, rfl, rfl, rfl, rfl, rfl, rfl, rfl, rfl, rfl, rfl, rfl, rfl, rfl,
    rfl, sensors, inputs, rfl, rfl⟩

/-- Settles O52: the laws are decided on `State.reset`, which holds no record. -/
theorem lawsHoldAtReset : Obligations.LawsHoldAtReset := by
  refine ⟨rfl, rfl, rfl, rfl, rfl, rfl, ?_, rfl, rfl, ?_, rfl, ?_, rfl, fun _ h => nomatch h⟩
  · simp [State.reset, RoofTable.start, RoofTable.claimLaw, Entry.blank]
  · exact State.plantLaws_invariant.reset.order
  · exact State.plantLaws_invariant.reset.load

/-! ## An unpowered part -/

theorem State.event_unpowered {s : State} (h : s.powered = false) (occurs : Bool)
    (effect : State → State) : s.event occurs effect = .next s := by
  simp [State.event, h]

theorem State.innerEvent_unpowered {s : State} (h : s.powered = false) (occurs : Bool)
    (effect : State → State) : s.innerEvent occurs effect = .next s := by
  simp [State.innerEvent, h]

theorem State.quietEvent_unpowered {s : State} (h : s.powered = false) (occurs : Bool)
    (effect : State → State) : s.quietEvent occurs effect = .next s := by
  simp [State.quietEvent, h]

theorem State.eventThen_unpowered {s : State} (h : s.powered = false) (occurs : Bool)
    (effect raise : State → State) : s.eventThen occurs effect raise = .next s := by
  simp [State.eventThen, h]

theorem State.request_unpowered {s : State} (h : s.powered = false) (handle : State → State) :
    s.request handle = .next s := by
  simp [State.request, h]

/-- R9: without supply no command but the supply's own has an effect. -/
theorem exec_unpowered {c : Instr} {s : State} (h : s.powered = false) (hu : c ≠ .powerUp)
    (hs : c ≠ .supplyOutOfRange) : exec c s = .next s := by
  unfold exec
  cases c with
  | powerUp => exact absurd rfl hu
  | supplyOutOfRange => exact absurd rfl hs
  | configure | start | readStatus | readEntry | readFaults | clear | unlock | serviceRestart | leave
  | rollcall | linkTest => exact State.request_unpowered h _
  | unknownRequest code payload =>
    dsimp only [execUnknownRequest]
    split
    · rfl
    · exact State.request_unpowered h _
  | serviceResponseEnd =>
    dsimp only [execServiceResponseEnd]
    split
    · rfl
    · split
      · exact State.event_unpowered h _ _
      · exact State.innerEvent_unpowered h _ _
  | stateReceived frame =>
    dsimp only [execStateReceived]
    split
    · exact State.event_unpowered h _ _
    · rfl
  | shedReceived frame =>
    dsimp only [execShedReceived]
    split
    · exact State.event_unpowered h _ _
    · rfl
  | leaveReceived frame =>
    dsimp only [execLeaveReceived]
    split
    · exact State.event_unpowered h _ _
    · rfl
  | ownEcho frame =>
    dsimp only [execOwnEcho]
    split
    · exact State.innerEvent_unpowered h _ _
    · rfl
  | duplicateDetected frame =>
    dsimp only [execDuplicateDetected]
    split
    · exact State.event_unpowered h _ _
    · rfl
  | attemptFailed cause =>
    dsimp only [execAttemptFailed]
    split
    · exact State.event_unpowered h _ _
    · rfl
  | frameSent =>
    dsimp only [execFrameSent]
    split
    · exact State.event_unpowered h _ _
    · rfl
  | settleExpiry =>
    dsimp only [execSettleExpiry]
    split
    · exact State.event_unpowered h _ _
    · rfl
  | conversionComplete code =>
    dsimp only [execConversionComplete]
    split
    · exact State.event_unpowered h _ _
    · rfl
  | inputSample r pinHigh => exact State.eventThen_unpowered h _ _ _
  | attemptBegin | cutOffFrameRelease => exact State.quietEvent_unpowered h _ _
  | restart | joinExpiry | silenceExpiry | freshnessExpiry | claimHoldExpiry | holdoffExpiry
  | shedWaitExpiry | changeoverExpiry | offDelayExpiry | fullOpenExpiry | damperTimerExpiry
  | fanProofExpiry | proveExpiry | minRunExpiry | minOffExpiry | tripDelayExpiry | interStageExpiry
  | freezeExpiry => exact State.event_unpowered h _ _
  | secondsTick | requestDiscardedBusy | serviceFrameBadCrc | serviceFrameAbort | linkIdle
  | receiveAbort | frameRejected | backoffAbandoned | spacingExpiry | reportTimerExpiry
  | shedSpacingExpiry | pwmPeriodStart | scanTimerExpiry | frameStartCharacter
  | charactersAfterFrame | serviceStartCharacter | serviceLengthZero =>
    exact State.innerEvent_unpowered h _ _

/-- Settles O4: the supply's own writes, and the wrappers of every other command. -/
theorem supplyOutOfRangeStopsThePart : Obligations.SupplyOutOfRangeStopsThePart :=
  ⟨fun _ => rfl, fun _ _ h hu hs => exec_unpowered h hu hs⟩

/-! ## Ticks -/

theorem State.innerEvent_runs {s : State} {occurs : Bool} (effect : State → State)
    (hp : s.powered = true) (ho : occurs = true) : s.innerEvent occurs effect = .next (effect s) := by
  simp [State.innerEvent, hp, ho]

/-- Settles O7: each tick is an inner event that occurs. -/
theorem ticksWriteTheirOwnState : Obligations.TicksWriteTheirOwnState := by
  refine ⟨fun s hp => ?_,
    fun s hp h => State.innerEvent_runs (fun s => { s with adm.shedSpacing := none }) hp h,
    fun s hp => State.innerEvent_runs (fun s => { s with pins.dmp := s.mode.damper }) hp rfl,
    fun s hp h => State.innerEvent_runs
      (fun s => { s with scan.timer := some scanPeriod, scan.scan := s.scanList }) hp h⟩
  have wraps : s.seconds + 1 = BitVec.ofNat 32 (s.seconds.toNat + 1) := by
    apply BitVec.eq_of_toNat_eq
    simp
  rw [← wraps]
  exact State.innerEvent_runs (fun s => { s with seconds := s.seconds + 1 }) hp rfl

/-! ## The pins -/

/-- R9: whether a part is powered moves with the supply alone. -/
theorem State.powered_invariant : State.Invariant (fun s => s.powered = true) where
  core h e := e.powered.trans h
  denials _ h := h
  timers _ _ _ _ h := h
  stop s i h := by rw [s.stopSlot_eq i]; exact h
  trip s i cause h := by rw [(s.trip_frame i cause).1]; exact h
  shift _ _ _ _ _ h := h
  decide _ _ _ h _ _ _ d := by rw [d.frame.1]; exact h
  settle s c _ h := by
    have closed : s.closeClaim.powered = true := by rw [s.closeClaim_frame.1]; exact h
    refine ⟨closed, ?_, closed⟩
    rw [(State.grant_frame _ c.slot c.intended).1]
    exact closed
  release _ _ h := h
  spacing _ h := h
  isolate s cause _ h := by rw [s.enterIsolated_frame cause]; exact h
  recause _ _ _ _ h := h
  shutdown s h := by rw [s.enterShutdown_frame]; exact h
  leave s h := by rw [s.enterLeft_frame]; exact h
  work s new _ h := by rw [s.enterWorking_frame new]; exact h
  join s cfg _ h := by rw [(s.enterJoining_entry cfg).1]; exact h
  restart s h := by
    rw [State.doRestart_eq]
    split
    · rw [(State.enterJoining_entry _ _).1]
      exact h
    · exact h
  record _ _ _ h := h
  reset := rfl

theorem State.pinsFollow_iff {s : State} (h : s.powered = true) :
    s.pinsFollow = true ↔ s.pins = s.drivenPins := by
  simp [State.pinsFollow, h]

/-- The pins but for the width at DMP, which is taken at its own period start (R131). -/
def Pins.levels (p : Pins) : Pins := { p with dmp := 0 }

/-- After `t` the pins are the driven ones, or neither the levels nor what drives them moved. -/
def State.PinsKept (s t : State) : Prop :=
  t.pins = t.drivenPins ∨
    (t.pins.levels = s.pins.levels ∧ t.drivenPins.levels = s.drivenPins.levels)

theorem State.PinsKept.follow {s t : State} (h : s.PinsKept t) (hs : s.pins = s.drivenPins) :
    t.pins = t.drivenPins := by
  rcases h with driven | ⟨levels, drivers⟩
  · exact driven
  · have same : t.pins.levels = t.drivenPins.levels := by rw [levels, drivers, hs]
    have dmp : t.drivenPins.dmp = t.pins.dmp := rfl
    calc t.pins = { t.pins.levels with dmp := t.pins.dmp } := rfl
      _ = { t.drivenPins.levels with dmp := t.drivenPins.dmp } := by rw [same, dmp]
      _ = t.drivenPins := rfl

/-- What drives the pins: running stages, the fan command, the wire, the held and the enabled
categories. -/
structure State.SameDrivers (s t : State) : Prop where
  stage : t.stage = s.stage := by rfl
  fan : t.mode.fan = s.mode.fan := by rfl
  onWire : t.link.onWire = s.link.onWire := by rfl
  cutOff : t.link.cutOff = s.link.cutOff := by rfl
  fault : t.fault = s.fault := by rfl
  config : t.config = s.config := by rfl
  levels : t.pins.levels = s.pins.levels := by rfl

theorem State.SameDrivers.kept {s t : State} (d : s.SameDrivers t) : s.PinsKept t := by
  refine .inr ⟨d.levels, ?_⟩
  have runs : t.isRunning = s.isRunning := funext (State.isRunning_congr (by rw [d.stage]))
  simp only [State.drivenPins, Pins.levels, runs, d.fan, d.onWire, d.cutOff, State.alertAsserted,
    State.alertMask, d.fault, d.config]

theorem Link.sameButQueue.onWire {l k : Link} (h : l.sameButQueue k) : k.onWire = l.onWire := by
  rw [h]

theorem Link.sameButQueue.cutOff {l k : Link} (h : l.sameButQueue k) : k.cutOff = l.cutOff := by
  rw [h]

theorem State.SameDrivers.serve {s : State} (l : Link) (onWire : l.onWire = s.link.onWire)
    (cutOff : l.cutOff = s.link.cutOff) : s.SameDrivers (State.serveLink { s with link := l }) := by
  have queue := State.serveLink_frame { s with link := l }
  exact { onWire := queue.onWire.trans onWire, cutOff := queue.cutOff.trans cutOff }

theorem State.requestState_drivers (s : State) (roll : Bool) :
    s.SameDrivers (s.requestState roll) where
  stage := by simp
  fan := by simp
  onWire := (s.requestState_link roll).onWire
  cutOff := (s.requestState_link roll).cutOff
  fault := by simp
  config := by simp
  levels := by simp

theorem State.SameDrivers.trans {a b c : State} (h : a.SameDrivers b) (k : b.SameDrivers c) :
    a.SameDrivers c :=
  ⟨k.stage.trans h.stage, k.fan.trans h.fan, k.onWire.trans h.onWire, k.cutOff.trans h.cutOff,
    k.fault.trans h.fault, k.config.trans h.config, k.levels.trans h.levels⟩

/-- An answer moves neither pins nor what drives them. -/
theorem State.PinsKept.answer {s t : State} (h : s.PinsKept t) (code : Nat) (result : ServiceResult)
    (payload : List Byte) : s.PinsKept (t.answer code result payload) := h

theorem State.settleInto_kept (s t before : State) : s.PinsKept (t.settleInto before) :=
  .inl (State.settleInto_pins t before)

theorem State.drivePins_kept (s t : State) : s.PinsKept t.drivePins := .inl t.drivePins_pins

theorem State.PinsKept.refl (s : State) : s.PinsKept s := .inr ⟨rfl, rfl⟩

theorem State.event_pins (s : State) (occurs : Bool) (effect : State → State) :
    Gives s.PinsKept (s.event occurs effect) :=
  gives_ite (.refl s) fun _ => State.settleInto_kept _ _ _

theorem State.innerEvent_pins {s : State} {occurs : Bool} {effect : State → State}
    (h : s.SameDrivers (effect s)) : Gives s.PinsKept (s.innerEvent occurs effect) :=
  gives_ite (.refl s) fun _ => h.kept

theorem State.quietEvent_pins (s : State) (occurs : Bool) (effect : State → State) :
    Gives s.PinsKept (s.quietEvent occurs effect) :=
  gives_ite (.refl s) fun _ => State.drivePins_kept _ _

theorem State.request_pins {s : State} {handle : State → State}
    (h : ∀ t : State, t.PinsKept (handle t)) : Gives s.PinsKept (s.request handle) := by
  refine gives_ite (.refl s) fun _ => ?_
  split
  · exact .inr ⟨rfl, rfl⟩
  · exact h { s with svc.rx := .hunt }

theorem execConfigure_pins (record : List Byte) (s : State) :
    Gives s.PinsKept (execConfigure record s) := by
  refine State.request_pins fun s => ?_
  have refused (result : ServiceResult) (payload : List Byte) :
      s.PinsKept (s.answer 0x01 result payload) := (State.PinsKept.refl s).answer ..
  split
  · exact refused _ _
  · split
    · exact refused _ _
    · split
      · exact refused _ _
      · exact (State.drivePins_kept s _).answer ..

theorem execStart_pins (s : State) : Gives s.PinsKept (execStart s) := by
  refine State.request_pins fun s => ?_
  split
  · exact (State.settleInto_kept s _ _).answer ..
  · exact (State.PinsKept.refl s).answer ..

theorem execReadEntry_pins (n : Byte) (s : State) : Gives s.PinsKept (execReadEntry n s) := by
  refine State.request_pins fun s => ?_
  split <;> exact (State.PinsKept.refl s).answer ..

theorem execClear_pins (set : BitVec 24) (s : State) : Gives s.PinsKept (execClear set s) := by
  refine State.request_pins fun s => ?_
  split
  · exact (State.PinsKept.refl s).answer ..
  · exact (State.drivePins_kept s _).answer ..

theorem execUnlock_pins (code : Byte) (s : State) : Gives s.PinsKept (execUnlock code s) := by
  refine State.request_pins fun s => ?_
  have refused (result : ServiceResult) : s.PinsKept (s.answer 0x21 result) :=
    (State.PinsKept.refl s).answer ..
  split
  · exact refused _
  · split
    · split
      · exact (State.settleInto_kept s _ _).answer ..
      · exact refused _
    · exact refused _

theorem execLeave_pins (s : State) : Gives s.PinsKept (execLeave s) := by
  refine State.request_pins fun s => ?_
  have left : s.PinsKept ((s.enterLeft.settleInto s).answer 0x31 .ok) :=
    (State.settleInto_kept s _ _).answer ..
  cases s.station.state with
  | sharing | isolated | solo | shutdown => exact left
  | config | joining | left => exact (State.PinsKept.refl s).answer ..

theorem execRollcall_pins (s : State) : Gives s.PinsKept (execRollcall s) := by
  refine State.request_pins fun s => ?_
  split
  · exact (s.requestState_drivers true).kept.answer ..
  · exact (State.PinsKept.refl s).answer ..

theorem execLinkTest_pins (mask : BitVec 16) (count : Byte) (s : State) :
    Gives s.PinsKept (execLinkTest mask count s) := by
  refine State.request_pins fun s => ?_
  have refused (result : ServiceResult) : s.PinsKept (s.answer 0x33 result) :=
    (State.PinsKept.refl s).answer ..
  split
  · exact refused _
  · split
    · exact refused _
    · exact State.SameDrivers.kept {}

/-- The commands whose event is a match on their operand or on the state: nothing, or an event. -/
theorem exec_pins {c : Instr} {s : State} (hu : c ≠ .powerUp) (hs : c ≠ .supplyOutOfRange) :
    Gives s.PinsKept (exec c s) := by
  have unmoved : Gives s.PinsKept (.next s) := gives_next (.refl s)
  unfold exec
  cases c with
  | powerUp => exact absurd rfl hu
  | supplyOutOfRange => exact absurd rfl hs
  -- Service requests
  | configure record => exact execConfigure_pins record s
  | start => exact execStart_pins s
  | readEntry n => exact execReadEntry_pins n s
  | readStatus | readFaults | serviceRestart => exact State.request_pins fun s => .inr ⟨rfl, rfl⟩
  | clear set => exact execClear_pins set s
  | unlock code => exact execUnlock_pins code s
  | leave => exact execLeave_pins s
  | rollcall => exact execRollcall_pins s
  | linkTest mask count => exact execLinkTest_pins mask count s
  | unknownRequest code payload =>
    dsimp only [execUnknownRequest]
    split
    · exact unmoved
    · exact State.request_pins fun s => (State.PinsKept.refl s).answer ..
  | serviceResponseEnd =>
    dsimp only [execServiceResponseEnd]
    split
    · exact unmoved
    · split
      · exact s.event_pins _ _
      · exact State.innerEvent_pins {}
  -- Events that drive the pins
  | stateReceived frame => dsimp only [execStateReceived]; split; exacts [s.event_pins _ _, unmoved]
  | shedReceived frame => dsimp only [execShedReceived]; split; exacts [s.event_pins _ _, unmoved]
  | leaveReceived frame => dsimp only [execLeaveReceived]; split; exacts [s.event_pins _ _, unmoved]
  | duplicateDetected frame =>
    dsimp only [execDuplicateDetected]; split; exacts [s.event_pins _ _, unmoved]
  | attemptFailed cause => dsimp only [execAttemptFailed]; split; exacts [s.event_pins _ _, unmoved]
  | frameSent => dsimp only [execFrameSent]; split; exacts [s.event_pins _ _, unmoved]
  | settleExpiry => dsimp only [execSettleExpiry]; split; exacts [s.event_pins _ _, unmoved]
  | conversionComplete code =>
    dsimp only [execConversionComplete]; split; exacts [s.event_pins _ _, unmoved]
  | inputSample r pinHigh => exact gives_ite (.refl s) fun _ => State.drivePins_kept _ _
  | attemptBegin | cutOffFrameRelease => exact s.quietEvent_pins _ _
  | restart | joinExpiry | silenceExpiry | freshnessExpiry | claimHoldExpiry | holdoffExpiry
  | shedWaitExpiry | changeoverExpiry | offDelayExpiry | fullOpenExpiry | damperTimerExpiry
  | fanProofExpiry | proveExpiry | minRunExpiry | minOffExpiry | tripDelayExpiry | interStageExpiry
  | freezeExpiry => exact s.event_pins _ _
  -- Events that move nothing a pin shows
  | ownEcho frame =>
    dsimp only [execOwnEcho]; split; exacts [State.innerEvent_pins {}, unmoved]
  | linkIdle | spacingExpiry => exact State.innerEvent_pins (.serve _ rfl rfl)
  | reportTimerExpiry =>
    exact State.innerEvent_pins
      (.trans (b := { s with link.report := some reportPeriod }) {} (State.requestState_drivers _ _))
  | secondsTick | requestDiscardedBusy | serviceFrameBadCrc | serviceFrameAbort | receiveAbort
  | frameRejected | backoffAbandoned | shedSpacingExpiry | pwmPeriodStart | scanTimerExpiry
  | frameStartCharacter | charactersAfterFrame | serviceStartCharacter | serviceLengthZero =>
    exact State.innerEvent_pins {}

/-- The pins follow after every command. -/
theorem exec_pinsFollow (c : Instr) (s : State) (h : s.pinsFollow = true) :
    Gives (fun t => t.pinsFollow = true) (exec c s) := by
  by_cases hs : c = .supplyOutOfRange
  · subst hs
    exact gives_next rfl
  by_cases hu : c = .powerUp
  · subst hu
    exact gives_next (show State.reset.pinsFollow = true from lawsHoldAtReset.1)
  cases hp : s.powered with
  | false =>
    rw [exec_unpowered hp hu hs]
    exact gives_next h
  | true =>
    intro t ht
    rw [State.pinsFollow_iff (State.powered_invariant.exec c s hs hp t ht)]
    exact (exec_pins hu hs t ht).follow ((State.pinsFollow_iff hp).1 h)

/-- Settles O53: each command drives the pins last, or moves nothing that they show. -/
theorem pinsFollowStateAlways : Obligations.PinsFollowStateAlways := by
  intro s t h hst
  unfold step at hst
  split at hst
  · cases hst
    exact h
  · rename_i rest _
    exact exec_pinsFollow _ { s with pending := rest } h t hst

end Sys2Proof.Machine

/-! # The end of an event

What the selection, a start and the report of the offer leave alone (R70, R94, R141): the station, the
Fault Capture, a slot that is out of the way, the transmit slots that wait, and all but the presented
request while no start can be taken. -/

namespace Sys2Proof.Machine

/-! ## Wanted counts that did not change -/

/-- Counts that are still the ones last tested bring no stops. -/
theorem State.serveWanted_tested (fuel : Nat) {tested : ModeLogic} {s : State}
    (cool : s.mode.wantedCool = tested.wantedCool) (heat : s.mode.wantedHeat = tested.wantedHeat) :
    State.serveWanted fuel tested s = s := by
  cases fuel with
  | zero => rfl
  | succ n => simp [State.serveWanted, State.stopsFor, cool, heat]

/-- No stop is due on a side without a stage in RUN_FREE. -/
theorem State.stopsDue_nil {s : State} {d : Side}
    (h : ∀ i, sideOf i = d → s.stageState i ≠ .runFree) : s.stopsDue d = [] := by
  have none : s.stage.order.reverse.filter
      (fun i => sideOf i == d && s.stageState i == .runFree) = [] := by
    rw [List.filter_eq_nil_iff]
    intro i _ hi
    simp only [Bool.and_eq_true, beq_iff_eq] at hi
    exact h i hi.1 hi.2
  simp [State.stopsDue, none]

/-- With no stage in RUN_FREE no changed count brings a stop. -/
theorem State.serveWanted_idle (fuel : Nat) {tested : ModeLogic} {s : State}
    (h : ∀ i, s.stageState i ≠ .runFree) : State.serveWanted fuel tested s = s := by
  cases fuel with
  | zero => rfl
  | succ n =>
    have due (d : Side) : s.stopsDue d = [] := State.stopsDue_nil fun i _ => h i
    simp [State.serveWanted, State.stopsFor, due]

/-- An event that moved no stage has nothing to report. -/
theorem State.stagesMoved_same {s before : State} (h : s.stageStates = before.stageStates) :
    s.stagesMoved before = s := by
  rw [State.stagesMoved, State.reportMove, if_pos h]
  exact State.serveWanted_tested 4 rfl rfl

/-! ## No start can be taken -/

theorem State.startsHeld_iff (s : State) :
    s.startsHeld = true ↔ s.adm.state ≠ .idle ∨ s.station.state.working = false := by
  simp [State.startsHeld]

theorem State.takeRequest_held {s : State} (h : s.startsHeld = true) : s.takeRequest = s := by
  rcases s.takeRequest_decides with same | ⟨_, _, idle, working, _⟩
  · exact same
  · rcases (State.startsHeld_iff s).1 h with busy | off
    · exact absurd idle busy
    · rw [working] at off
      cases off

/-- Only the presented request follows an event while no start can be taken. -/
theorem State.serveStarts_held {s : State} (h : s.startsHeld = true) :
    s.serveStarts = { s with stage.presented := s.serveStarts.stage.presented } := by
  have taken : s.select.takeRequest = s.select := State.takeRequest_held (s := s.select) h
  rw [State.serveStarts, taken, State.stagesMoved_same rfl]
  rfl

/-- The end of an event while no start can be taken and the offer stands: the presented request and the
pins. -/
theorem State.settleStarts_held {s before : State} (h : s.startsHeld = true)
    (offer : s.offer = before.offer) :
    s.settleStarts before =
      { s with stage.presented := (s.settleStarts before).stage.presented } := by
  have same : s.serveStarts.offer = before.offer := by
    rw [State.serveStarts_held h]
    exact offer
  rw [State.settleStarts, State.reportOffer, if_pos same]
  exact State.serveStarts_held h

@[simp] theorem State.settleInto_adm (s before : State) :
    (s.settleInto before).adm = (s.settleStarts before).adm := by
  rw [State.settleInto, State.drivePins_adm]
@[simp] theorem State.settleInto_mode (s before : State) :
    (s.settleInto before).mode = (s.settleStarts before).mode := by
  rw [State.settleInto, State.drivePins_mode]
@[simp] theorem State.settleInto_stage (s before : State) :
    (s.settleInto before).stage = (s.settleStarts before).stage := by
  rw [State.settleInto, State.drivePins_stage]
@[simp] theorem State.settleInto_link (s before : State) :
    (s.settleInto before).link = (s.settleStarts before).link := by
  rw [State.settleInto, State.drivePins_link]

theorem State.drivePins_presented {s t : State}
    (h : t = { s with stage.presented := t.stage.presented }) :
    t.drivePins =
      { s with stage.presented := t.drivePins.stage.presented, pins := t.drivePins.pins } := by
  have pins : t.drivePins = { t with pins := t.drivePins.pins } := rfl
  rw [pins]
  generalize t.drivePins.pins = p
  rw [h]

theorem State.settleInto_held {s before : State} (h : s.startsHeld = true)
    (offer : s.offer = before.offer) :
    s.settleInto before =
      { s with
        stage.presented := (s.settleInto before).stage.presented
        pins := (s.settleInto before).pins } := by
  rw [State.settleInto]
  exact State.drivePins_presented (State.settleStarts_held h offer)

/-- The plant after an event while no start can be taken. -/
theorem State.settleInto_plant {s : State} (before : State) (h : s.startsHeld = true) :
    (s.settleInto before).adm = s.adm ∧ (s.settleInto before).mode = s.mode ∧
      (s.settleInto before).stage =
        { s.stage with presented := (s.settleInto before).stage.presented } := by
  rw [State.settleInto_adm, State.settleInto_mode, State.settleInto_stage, State.settleStarts,
    State.reportOffer, State.serveStarts_held h]
  split <;> simp

/-! ## The station and the Fault Capture -/

theorem State.blind_fault (f : FaultCapture) : State.Blind (fun t => t.fault = f) where
  plant _ _ _ _ h := h
  request t roll h := by rw [t.requestState_fault roll, h]
  shed t call h := by rw [t.requestShed_fault call, h]

theorem State.settleInto_fault (s before : State) : (s.settleInto before).fault = s.fault := by
  rw [State.settleInto, State.drivePins_fault]
  exact State.settleStarts_keeps (State.blind_fault s.fault).keepsStarts s before rfl

theorem State.settleInto_station (s before : State) : (s.settleInto before).station = s.station :=
  (s.settleInto_frame before).station_eq

theorem State.evaluate_fault (s : State) (cause : EvalCause) : (s.evaluate cause).fault = s.fault :=
  State.evaluate_keeps (State.blind_fault s.fault).keeps s cause rfl

theorem State.entered_fault (s before : State) : (s.entered before).fault = s.fault :=
  State.entered_keeps (State.blind_fault s.fault).keeps s before rfl

theorem State.stagesMoved_fault (s before : State) : (s.stagesMoved before).fault = s.fault :=
  State.stagesMoved_keeps (State.blind_fault s.fault).keeps s before rfl

/-- A raised category is held. -/
theorem State.raise_holds (s : State) (c : Category) :
    c.within (s.raise c).fault.heldSet = true := by
  have own (l : BitVec 24) : c.within (l ||| c.bit) = true := by
    cases c <;> simp [Category.within, Category.bit, Category.number]
  unfold State.raise
  split
  · exact own _
  · rename_i r hr
    split
    · rename_i hc
      simp only [FaultCapture.heldSet, hr, hc]
      exact own _
    · simp only [FaultCapture.heldSet, hr]
      rw [BitVec.or_assoc, BitVec.or_comm c.bit, ← BitVec.or_assoc]
      exact own _

theorem Category.within_or (c : Category) (a b : BitVec 24) :
    c.within (a ||| b) = (c.within a || c.within b) := by
  simp [Category.within]

theorem Category.within_and_not (c : Category) (a b : BitVec 24) :
    c.within (a &&& ~~~b) = (c.within a && !c.within b) := by
  have small : c.number - 1 < 24 := by cases c <;> decide
  simp [Category.within, small]

/-- A held category stays held through a raise. -/
theorem State.raise_keeps_held (s : State) (c d : Category)
    (h : d.within s.fault.heldSet = true) : d.within (s.raise c).fault.heldSet = true := by
  unfold State.raise
  split
  · rename_i hr
    simp only [FaultCapture.heldSet, hr] at h
    simp only [FaultCapture.heldSet, State.snapshot, Category.within_or, Category.within_and_not, h,
      Bool.true_and, Bool.not_or_self]
  · rename_i r hr
    split
    · exact h
    · simp only [FaultCapture.heldSet, hr, Category.within_or, Bool.or_eq_true] at h ⊢
      tauto

/-! ## The pins -/

/-- A stage pin after an event shows whether its stage runs. -/
theorem State.settleInto_stagePin (s before : State) (i : Slot) :
    (s.settleInto before).pins.stages.get i = (s.settleInto before).isRunning i := by
  rw [State.settleInto_pins]
  exact PerSlot.get_of _ i

/-! ## Slots out of the way -/

/-- Slot `i` stands at `r` and off the running order list. -/
def State.Rests (i : Slot) (r : Stage) (s : State) : Prop := s.slot i = r ∧ i ∉ s.stage.order

theorem State.Rests.of_stage {i : Slot} {r : Stage} {s t : State} (h : s.Rests i r)
    (slots : t.stage.slots = s.stage.slots) (order : t.stage.order = s.stage.order) :
    t.Rests i r :=
  ⟨(State.slot_congr slots i).trans h.1, order ▸ h.2⟩

theorem State.Rests.setSlot {i j : Slot} {r : Stage} {s : State} (h : s.Rests i r) (q : Stage)
    (hj : i ≠ j) : (s.setSlot j q).Rests i r := by
  refine ⟨?_, h.2⟩
  rw [State.slot_setSlot, if_neg hj]
  exact h.1

theorem State.Rests.startSlot {i j : Slot} {r : Stage} {s : State} (h : s.Rests i r)
    (hj : i ≠ j) : (s.startSlot j).Rests i r := by
  refine ⟨?_, ?_⟩
  · rw [State.startSlot_slot, if_neg hj]
    exact h.1
  · rw [State.startSlot_order, List.mem_append, List.mem_singleton]
    exact fun hi => hi.elim h.2 hj

theorem State.Rests.unclaimSlot {i : Slot} {r : Stage} {s : State} (hr : r.state ≠ .claimed)
    (h : s.Rests i r) (j : Slot) : (s.unclaimSlot j).Rests i r := by
  unfold State.unclaimSlot
  split
  · rename_i hj
    refine h.setSlot _ ?_
    rintro rfl
    rw [State.stageState, h.1] at hj
    exact hr hj
  · exact h

theorem State.Rests.stopSlot {i : Slot} {r : Stage} {s : State} (hr : r.state.running = false)
    (h : s.Rests i r) (j : Slot) : (s.stopSlot j).Rests i r := by
  refine ⟨?_, ?_⟩
  · rw [State.stopSlot_slot, if_neg]
    · exact h.1
    · rintro ⟨rfl, hrun⟩
      rw [State.isRunning_of_slot h.1, hr] at hrun
      cases hrun
  · rw [State.stopSlot_order]
    split
    · exact fun hi => h.2 (List.mem_filter.1 hi).1
    · exact h.2

theorem State.rests_keeps {i : Slot} {r : Stage} (hr : r.state.running = false) :
    State.Keeps (State.Rests i r) where
  mode _ _ h := h
  denials _ h := h
  fan s on h := h.of_stage (s.fanCommanded_stage on).1 (s.fanCommanded_stage on).2
  request s h := h.of_stage (by simp) (by simp)
  stop _ j h := h.stopSlot hr j

theorem State.grantMode_stage (s : State) (m : Intended) : (s.grantMode m).stage = s.stage := by
  unfold State.grantMode
  cases m <;> dsimp only <;> split <;> simp

/-- No start touches a slot that neither runs nor is READY. -/
theorem State.rests_keepsStarts {i : Slot} {r : Stage} (hr : r.state.running = false)
    (ready : r.state ≠ .ready) : State.KeepsStarts (State.Rests i r) where
  toKeeps := State.rests_keeps hr
  select _ h := h
  decide s t j h hsel _ _ d := by
    have hj : i ≠ j := by
      rintro rfl
      exact ready (h.1 ▸ State.ready_of_selectable hsel)
    cases d with
    | claim level headroom sharing =>
      exact (h.setSlot { s.slot j with state := .claimed } hj).of_stage
        (by simp [State.openClaim]; rfl) (by simp [State.openClaim]; rfl)
    | shed level headroom needed sharing =>
      exact h.of_stage (by simp [State.callShed]; rfl) (by simp [State.callShed]; rfl)
    | denied level headroom => exact h
    | granted level headroom mode fits alone =>
      refine State.Rests.of_stage
        (s := ({ s.judged level headroom with adm.denials := 0, stage.presented := none } :
          State).startSlot j) (State.Rests.startSlot h hj) ?_ ?_ <;>
        rw [State.grant, State.grantMode_stage]

theorem State.Rests.settleInto {i : Slot} {r : Stage} {s : State} (h : s.Rests i r)
    (hr : r.state.running = false) (ready : r.state ≠ .ready) (before : State) :
    (s.settleInto before).Rests i r := by
  rw [State.settleInto]
  exact (State.settleStarts_keeps (State.rests_keepsStarts hr ready) s before h).of_stage
    (by rw [State.drivePins_stage]) (by rw [State.drivePins_stage])

/-- R149: a stage stopped in an event, at its end. -/
theorem State.stopTaken_settleInto {s t : State} (before : State) {i : Slot}
    (h : t.Rests i (s.stoppedStage i)) : s.stopTaken (t.settleInto before) i := by
  obtain ⟨slot, order⟩ := h.settleInto rfl (by simp [State.stoppedStage]) before
  refine ⟨by rw [State.stageState, slot]; rfl, by rw [slot]; rfl, by rw [slot]; rfl,
    by rw [slot]; rfl, order, ?_⟩
  rw [State.settleInto_stagePin, State.isRunning_of_slot slot]
  rfl

end Sys2Proof.Machine

/-! # What requests make of the transmit queue (R30 to R32)

Said once as a relation that STATE and SHED requests keep: slots that wait go on waiting, the CURRENT
slot stays CURRENT with its attempt count, and the ROLL mark stays. -/

namespace Sys2Proof.Machine

/-- What requests make of a queue. -/
structure Link.Asked (l k : Link) : Prop where
  leave : k.leaveSlot.waiting = l.leaveSlot.waiting
  leaveCurrent : l.leaveSlot = .current → k.leaveSlot = .current
  shedCurrent : l.shedSlot = .current → k.shedSlot = .current ∧ k.shedCall = l.shedCall
  state : l.stateSlot.waiting = true → k.stateSlot.waiting = true
  stateCurrent : l.stateSlot = .current → k.stateSlot = .current
  roll : l.stateSlot.waiting = true → l.roll = true → k.roll = true
  busy : l.busy = true → k.busy = true
  attempts : l.busy = true → k.attempts = l.attempts

theorem Link.Asked.refl (l : Link) : l.Asked l :=
  ⟨rfl, id, fun h => ⟨h, rfl⟩, id, id, fun _ => id, id, fun _ => rfl⟩

theorem Link.Asked.trans {a b c : Link} (h : a.Asked b) (k : b.Asked c) : a.Asked c where
  leave := k.leave.trans h.leave
  leaveCurrent hc := k.leaveCurrent (h.leaveCurrent hc)
  shedCurrent hc :=
    ⟨(k.shedCurrent (h.shedCurrent hc).1).1,
      (k.shedCurrent (h.shedCurrent hc).1).2.trans (h.shedCurrent hc).2⟩
  state hw := k.state (h.state hw)
  stateCurrent hc := k.stateCurrent (h.stateCurrent hc)
  roll hw hr := k.roll (h.state hw) (h.roll hw hr)
  busy hb := k.busy (h.busy hb)
  attempts hb := (k.attempts (h.busy hb)).trans (h.attempts hb)

/-- What STATE requests alone make of a queue: the SHED slot goes on as it was. -/
structure Link.StateAsked (l k : Link) : Prop extends Link.Asked l k where
  shed : k.shedSlot.waiting = l.shedSlot.waiting
  shedCall : k.shedCall = l.shedCall
  held : k.heldShed = l.heldShed

theorem Link.StateAsked.refl (l : Link) : l.StateAsked l := ⟨.refl l, rfl, rfl, rfl⟩

theorem Link.StateAsked.trans {a b c : Link} (h : a.StateAsked b) (k : b.StateAsked c) :
    a.StateAsked c :=
  ⟨h.toAsked.trans k.toAsked, k.shed.trans h.shed, k.shedCall.trans h.shedCall,
    k.held.trans h.held⟩

theorem SlotState.empty_of_not_waiting {a : SlotState} (h : a.waiting = false) : a = .empty := by
  cases a with
  | empty => rfl
  | queued | current => cases h

theorem Link.busy_eq_false {l : Link} (h : ¬ l.busy = true) :
    l.leaveSlot ≠ .current ∧ l.shedSlot ≠ .current ∧ l.stateSlot ≠ .current := by
  simpa [Link.busy, and_assoc] using h

/-- A queue whose slots, calls and attempt count stay, and whose ROLL mark is not cleared. -/
theorem Link.StateAsked.of_slots {l k : Link} (leave : k.leaveSlot = l.leaveSlot := by rfl)
    (shed : k.shedSlot = l.shedSlot := by rfl) (call : k.shedCall = l.shedCall := by rfl)
    (held : k.heldShed = l.heldShed := by rfl) (state : k.stateSlot = l.stateSlot := by rfl)
    (attempts : k.attempts = l.attempts := by rfl) (roll : l.roll = true → k.roll = true := by exact id) :
    l.StateAsked k where
  leave := by rw [leave]
  leaveCurrent h := leave.trans h
  shedCurrent h := ⟨shed.trans h, call⟩
  state h := by rw [state]; exact h
  stateCurrent h := state.trans h
  roll _ h := roll h
  busy h := by rw [Link.busy, leave, shed, state]; exact h
  attempts _ := attempts
  shed := by rw [shed]
  shedCall := call
  held := held

/-- A queue with no slot CURRENT, whose waiting slots go on waiting. -/
theorem Link.StateAsked.of_free {l k : Link} (free : ¬ l.busy = true)
    (leave : k.leaveSlot.waiting = l.leaveSlot.waiting := by rfl)
    (shed : k.shedSlot.waiting = l.shedSlot.waiting := by rfl)
    (call : k.shedCall = l.shedCall := by rfl) (held : k.heldShed = l.heldShed := by rfl)
    (state : k.stateSlot.waiting = l.stateSlot.waiting := by rfl)
    (roll : k.roll = l.roll := by rfl) : l.StateAsked k where
  leave := leave
  leaveCurrent h := absurd h (Link.busy_eq_false free).1
  shedCurrent h := absurd h (Link.busy_eq_false free).2.1
  state h := state.trans h
  stateCurrent h := absurd h (Link.busy_eq_false free).2.2
  roll _ h := roll.trans h
  busy h := absurd h free
  attempts h := absurd h free
  shed := shed
  shedCall := call
  held := held

/-- R30: with a slot CURRENT a selection changes nothing; with none it can only make one CURRENT that
waits. -/
theorem Link.select_asked (l : Link) : l.StateAsked l.select := by
  unfold Link.select
  split
  · exact .refl l
  · rename_i free
    split
    · rename_i hq
      exact .of_free free (leave := by rw [hq]; rfl)
    · split
      · rename_i hq
        exact .of_free free (shed := by rw [hq]; rfl)
      · split
        · rename_i hq
          exact .of_free free (state := by rw [hq]; rfl)
        · exact .refl l

/-- The backoff count is no part of what is asked. -/
theorem Link.count_asked (n : Nat) (l : Link) : l.StateAsked (l.count n) := by
  unfold Link.count
  split
  · split
    · exact .refl l
    · exact .of_slots
  · exact .of_slots

/-- A STATE asked for with an EMPTY slot waits; with a waiting one the marks alone can be set. -/
theorem Link.requestState_asked (l : Link) (roll : Bool) : l.StateAsked (l.requestState roll) := by
  have marked : l.roll = true → (l.roll || roll) = true := fun h => by rw [h]; rfl
  unfold Link.requestState
  split
  · rename_i empty
    have busy : l.busy = ({ l with stateSlot := .queued, roll := roll } : Link).busy := by
      rw [Link.busy, Link.busy, empty]
      rfl
    exact
      { leave := rfl, leaveCurrent := id, shedCurrent := fun h => ⟨h, rfl⟩, state := fun _ => rfl
        stateCurrent := fun h => by rw [empty] at h; cases h
        roll := fun h => by rw [empty] at h; cases h
        busy := fun h => busy ▸ h, attempts := fun _ => rfl, shed := rfl, shedCall := rfl
        held := rfl }
  · exact .of_slots (roll := marked)
  · split
    · exact .of_slots (roll := marked)
    · split
      · split
        · exact .refl l
        · exact .of_slots
      · exact .of_slots (roll := marked)

theorem State.serveLink_asked (s : State) : s.link.StateAsked s.serveLink.link :=
  (Link.select_asked _).trans (Link.count_asked _ _)

theorem State.requestState_asked (s : State) (roll : Bool) :
    s.link.StateAsked (s.requestState roll).link := by
  unfold State.requestState
  split
  · exact (Link.requestState_asked _ roll).trans
      (State.serveLink_asked { s with link := s.link.requestState roll })
  · exact .refl _

theorem State.requestShed_asked (s : State) (call : ShedCall) :
    s.link.Asked (s.requestShed call).link := by
  unfold State.requestShed
  split
  · split
    · exact ⟨rfl, id, fun h => ⟨h, rfl⟩, id, id, fun _ => id, id, fun _ => rfl⟩
    · rename_i other
      have other : s.link.shedSlot ≠ .current := other
      refine .trans (b := { s.link with shedSlot := .queued, shedCall := call }) ?_
        (State.serveLink_asked { s with link.shedSlot := .queued, link.shedCall := call }).toAsked
      refine ⟨rfl, id, fun h => absurd h other, id, id, fun _ => id, fun h => ?_, fun _ => rfl⟩
      simpa [Link.busy, other] using h
  · exact .refl s.link

theorem State.requestShed_elsewhere {s : State} (call : ShedCall)
    (h : s.station.state ≠ .sharing) : s.requestShed call = s := by
  rw [State.requestShed, if_neg h]

theorem State.requestState_elsewhere {s : State} (roll : Bool)
    (h : s.station.state.reports = false) : s.requestState roll = s := by
  simp [State.requestState, h]

/-! ## Through the end of an event -/

theorem State.blind_asked (l : Link) : State.Blind (fun t => l.Asked t.link) where
  plant _ _ _ _ h := h
  request t roll h := h.trans (t.requestState_asked roll).toAsked
  shed t call h := h.trans (t.requestShed_asked call)

/-- Outside SHARING no SHED is asked for. -/
theorem State.blind_stateAsked (l : Link) :
    State.Blind (fun t => t.station.state ≠ .sharing ∧ l.StateAsked t.link) where
  plant _ _ _ _ h := h
  request t roll h := ⟨by rw [t.requestState_station roll]; exact h.1,
    h.2.trans (t.requestState_asked roll)⟩
  shed t call h := by rw [State.requestShed_elsewhere call h.1]; exact h

/-- In CONFIG and LEFT nothing is asked for. -/
theorem State.blind_unasked (l : Link) :
    State.Blind (fun t => (t.station.state.reports = false) ∧ t.link = l) where
  plant _ _ _ _ h := h
  request t roll h := by rw [State.requestState_elsewhere roll h.1]; exact h
  shed t call h := by
    rw [State.requestShed_elsewhere call]
    · exact h
    · intro hs
      have off := h.1
      rw [hs] at off
      cases off

theorem State.settleInto_asked (s before : State) : s.link.Asked (s.settleInto before).link := by
  rw [State.settleInto_link]
  exact State.settleStarts_keeps (State.blind_asked s.link).keepsStarts s before (.refl _)

theorem State.settleInto_stateAsked {s : State} (before : State) (h : s.station.state ≠ .sharing) :
    s.link.StateAsked (s.settleInto before).link := by
  rw [State.settleInto_link]
  exact (State.settleStarts_keeps (State.blind_stateAsked s.link).keepsStarts s before
    ⟨h, .refl _⟩).2

theorem State.settleInto_unasked {s : State} (before : State)
    (h : s.station.state.reports = false) : (s.settleInto before).link = s.link := by
  rw [State.settleInto_link]
  exact (State.settleStarts_keeps (State.blind_unasked s.link).keepsStarts s before ⟨h, rfl⟩).2

theorem State.entered_asked (s before : State) : s.link.Asked (s.entered before).link :=
  State.entered_keeps (State.blind_asked s.link).keeps s before (.refl _)

theorem State.entered_stateAsked {s : State} (before : State) (h : s.station.state ≠ .sharing) :
    s.link.StateAsked (s.entered before).link :=
  (State.entered_keeps (State.blind_stateAsked s.link).keeps s before ⟨h, .refl _⟩).2

theorem State.entered_unasked {s : State} (before : State) (h : s.station.state.reports = false) :
    (s.entered before).link = s.link :=
  (State.entered_keeps (State.blind_unasked s.link).keeps s before ⟨h, rfl⟩).2

theorem State.evaluate_asked (s : State) (cause : EvalCause) : s.link.Asked (s.evaluate cause).link :=
  State.evaluate_keeps (State.blind_asked s.link).keeps s cause (.refl _)

theorem State.evaluate_stateAsked {s : State} (cause : EvalCause) (h : s.station.state ≠ .sharing) :
    s.link.StateAsked (s.evaluate cause).link :=
  (State.evaluate_keeps (State.blind_stateAsked s.link).keeps s cause ⟨h, .refl _⟩).2

theorem State.stagesMoved_asked (s before : State) : s.link.Asked (s.stagesMoved before).link :=
  State.stagesMoved_keeps (State.blind_asked s.link).keeps s before (.refl _)

theorem Link.requestState_waiting (l : Link) (roll : Bool) :
    (l.requestState roll).stateSlot.waiting = true := by
  unfold Link.requestState
  split
  · rfl
  · rename_i h
    exact h ▸ rfl
  · rename_i h
    have waits : l.stateSlot.waiting = true := h ▸ rfl
    repeat' split
    all_goals exact waits

/-- R31: a STATE request that is taken leaves a STATE waiting. -/
theorem State.requestState_waiting {s : State} (roll : Bool) (h : s.station.state.reports = true) :
    (s.requestState roll).link.stateSlot.waiting = true := by
  rw [State.requestState, if_pos h]
  exact (State.serveLink_asked { s with link := s.link.requestState roll }).state
    (s.link.requestState_waiting roll)

/-- R31: a request with ROLL that finds nothing on the wire leaves the ROLL mark. -/
theorem Link.requestState_rolls {l : Link} (wire : l.onWire = none) :
    (l.requestState true).roll = true := by
  unfold Link.requestState
  rw [wire]
  split
  · rfl
  · exact Bool.or_true _
  · exact Bool.or_true _

theorem State.requestState_rolls {s : State} (h : s.station.state.reports = true)
    (wire : s.link.onWire = none) : (s.requestState true).link.roll = true := by
  rw [State.requestState, if_pos h]
  exact (State.serveLink_asked { s with link := s.link.requestState true }).roll
    (s.link.requestState_waiting true) (Link.requestState_rolls wire)

/-- An entry that requests a STATE leaves one waiting. -/
theorem State.entryEnd_waiting {s : State} (before : State) (h : s.station.state.reports = true) :
    (s.admissionIdle.requestState.entered before).link.stateSlot.waiting = true := by
  refine (State.entered_asked _ before).state (State.requestState_waiting false ?_)
  rw [s.admissionIdle_stageFrame.station_eq]
  exact h

theorem State.raise_waiting {s : State} (c : Category) (h : s.link.stateSlot.waiting = true) :
    (s.raise c).link.stateSlot.waiting = true := by
  rw [s.raise_link c]
  exact h

/-- R15, R19, R21: entry into a station state with reports leaves a STATE waiting. -/
theorem State.enterIsolated_waiting (s : State) (cause : IsolationCause) :
    (s.enterIsolated cause).link.stateSlot.waiting = true := by
  refine s.enterIsolated_of (P := fun t => t.link.stateSlot.waiting = true) cause
    (fun _ h => State.raise_waiting _ h) ?_
  rw [State.isolatedQuietly]
  refine State.entryEnd_waiting s ?_
  rw [(State.stopToCap_frame _).station_eq, State.setStation_station]
  rfl

theorem State.enterShutdown_waiting (s : State) : s.enterShutdown.link.stateSlot.waiting = true := by
  rw [State.enterShutdown]
  refine State.entryEnd_waiting s ?_
  rw [(State.stopAll_frame _).station_eq, State.setStation_station]
  rfl

theorem State.enterWorking_waiting (s : State) {new : StationState} (h : new.reports = true) :
    (s.enterWorking new).link.stateSlot.waiting = true := by
  rw [State.enterWorking]
  refine State.entryEnd_waiting s ?_
  rw [State.setStation_station]
  exact h

end Sys2Proof.Machine

/-! # Entry to JOINING: START, RESTART and the record (R10 to R12, R65, R132, R161, R202) -/

namespace Sys2Proof.Machine

/-! ## One evaluation -/

/-- R109 to R117: zone, demand, calls and the economizer formed, before what depends on the mode. -/
def State.formed (s : State) : ModeLogic :=
  { s.formCalls (s.formDemand s.mode) with econAvailable := s.economizerAvailable }

/-- R116, R118, R126 to R130: a mode formed outside the working states: off, nothing wanted, the fan off
and the damper shut. -/
def ModeLogic.shut (m : ModeLogic) : ModeLogic :=
  { m with
    mode := .off, wantedCool := 0, wantedHeat := 0, fan := false, offDelay := none
    damperTarget := 0, damper := 0, fullOpen := .stopped }

theorem State.yieldEnd_off {s : State} (h : s.station.state.working = false) (m : ModeLogic) :
    s.yieldEnd m = m := by
  unfold State.yieldEnd
  split
  · rfl
  · simp [h]

theorem State.wantedOf_off {s : State} (h : s.station.state.working = false) (m : ModeLogic)
    (d : Side) (first second : Bool) : s.wantedOf m d first second = 0 := by
  simp [State.wantedOf, h]

theorem State.formMode_off {s : State} (h : s.station.state.working = false)
    (hc : s.station.state ≠ .config) : s.formMode .plain = s.formed.shut := by
  simp [State.formMode, hc, State.yieldEnd_off h, State.formUnitMode, h, State.formWanted,
    State.wantedOf_off h, State.formFan, ModeLogic.name, UnitMode.side, State.formDamper,
    State.targetOf, ModeLogic.shut, State.formed]

theorem State.evaluateOnce_mode (s : State) (cause : EvalCause) :
    (s.evaluateOnce cause).mode = s.formMode cause := by
  have demand (s : State) (b : ModeLogic) : (s.handDemand b).mode = s.mode := by
    unfold State.handDemand; split <;> rfl
  have fan (s : State) (b : ModeLogic) : (s.handFan b).mode = s.mode := by
    unfold State.handFan
    split
    · rfl
    · rw [State.fanCommanded_eq]
  have report (s : State) (b : ModeLogic) : (s.handReport b).mode = s.mode := by
    unfold State.handReport; split <;> simp
  simp only [State.evaluateOnce, report, fan, demand]

/-- R72: the denials are kept or reset, and nothing else of the Admission Unit moves. -/
def Admission.SameButDenials (a b : Admission) : Prop :=
  b = { a with denials := b.denials } ∧ (b.denials = a.denials ∨ b.denials = 0)

theorem Admission.SameButDenials.refl (a : Admission) : a.SameButDenials a := ⟨rfl, .inl rfl⟩

theorem Admission.SameButDenials.reset {a b : Admission} (h : a.SameButDenials b) :
    a.SameButDenials { b with denials := 0 } := by
  refine ⟨?_, .inr rfl⟩
  rw [h.1]

theorem State.sameButDenials_keeps (a : Admission) :
    State.Keeps (fun t => a.SameButDenials t.adm) where
  mode _ _ h := h
  denials _ h := h.reset
  fan s on h := by rw [s.fanCommanded_adm on]; exact h
  request s h := by rw [s.requestState_adm]; exact h
  stop s i h := by rw [s.stopSlot_adm]; exact h

/-- With no stage in RUN_FREE an evaluation brings no stops. -/
theorem State.evaluate_idle {s : State} (cause : EvalCause)
    (h : ∀ i, s.stageState i ≠ .runFree) : s.evaluate cause = s.evaluateOnce cause :=
  State.serveWanted_idle 4 fun i =>
    (State.stageState_congr (s.evaluateOnce_stage cause).1 i).symm ▸ h i

theorem State.entered_idle {s : State} (before : State) (h : ∀ i, s.stageState i ≠ .runFree) :
    s.entered before = s.evaluateOnce .plain :=
  State.serveWanted_idle 4 fun i =>
    (State.stageState_congr (s.evaluateOnce_stage .plain).1 i).symm ▸ h i

/-- An evaluation that leaves the fan command leaves the Stage Controller. -/
theorem State.evaluateOnce_fan {s : State} {cause : EvalCause}
    (h : (s.formMode cause).fan = s.mode.fan) : (s.evaluateOnce cause).stage = s.stage := by
  have demand (s : State) (b : ModeLogic) : (s.handDemand b).stage = s.stage ∧
      (s.handDemand b).mode = s.mode := by
    unfold State.handDemand; split <;> exact ⟨rfl, rfl⟩
  have fan (s : State) (b : ModeLogic) (h : s.mode.fan = b.fan) : s.handFan b = s := by
    rw [State.handFan, if_pos h]
  have report (s : State) (b : ModeLogic) : (s.handReport b).stage = s.stage := by
    unfold State.handReport; split <;> simp
  rw [State.evaluateOnce, report, fan, (demand _ _).1]
  rw [(demand _ _).2]
  exact h

theorem State.not_runFree {s : State} {i : Slot} (h : s.isRunning i = false) :
    s.stageState i ≠ .runFree := by
  intro hf
  simp [State.isRunning, hf, StageState.running] at h

/-! ## What an event of the plant leaves -/

theorem State.stageFrame.table_eq {s t : State} (h : s.stageFrame t) : t.table = s.table := by
  rw [h.1]

theorem State.stageFrame.scan_eq {s t : State} (h : s.stageFrame t) : t.scan = s.scan := by
  rw [h.1]

theorem State.stageFrame.inputs_eq {s t : State} (h : s.stageFrame t) : t.inputs = s.inputs := by
  rw [h.1]

theorem State.stageFrame.svc_eq {s t : State} (h : s.stageFrame t) : t.svc = s.svc := by
  rw [h.1]

theorem State.stageFrame.holding {s t : State} (h : s.stageFrame t) : s.sameHolding t :=
  ⟨by rw [h.1], by rw [h.1], by rw [h.1], by rw [h.1], by rw [h.1]⟩

/-! ## JOINING -/

theorem State.joiningQuietly_idle (s : State) (cfg : ConfigRecord) (i : Slot) :
    (s.joiningQuietly cfg).isRunning i = false := StageCtl.joining_running s.stage cfg i

/-- JOINING with its STATE request, before its evaluation. -/
def State.joiningAsked (s : State) (cfg : ConfigRecord) : State :=
  (s.joiningQuietly cfg).requestState true

theorem State.joiningAsked_stage (s : State) (cfg : ConfigRecord) :
    (s.joiningAsked cfg).stage = s.stage.joining cfg := by
  rw [State.joiningAsked, State.requestState_stage]
  rfl

theorem State.enterJoining_once (s : State) (cfg : ConfigRecord) :
    s.enterJoining cfg = (s.joiningAsked cfg).evaluateOnce .plain := by
  rw [State.enterJoining_eq]
  refine State.evaluate_idle .plain fun i => State.not_runFree ?_
  rw [State.isRunning_congr (by rw [State.requestState_stage]) i]
  exact s.joiningQuietly_idle cfg i

theorem State.joiningAsked_mode (s : State) (cfg : ConfigRecord) :
    (s.joiningAsked cfg).mode = (s.joiningQuietly cfg).mode := by
  rw [State.joiningAsked, State.requestState_mode]

theorem State.joiningAsked_station (s : State) (cfg : ConfigRecord) :
    (s.joiningAsked cfg).station = (s.joiningQuietly cfg).station := by
  rw [State.joiningAsked, State.requestState_station]

theorem State.enterJoining_mode (s : State) (cfg : ConfigRecord) :
    (s.enterJoining cfg).mode = (s.joiningAsked cfg).formed.shut := by
  rw [State.enterJoining_once, State.evaluateOnce_mode, State.formMode_off] <;>
    rw [State.joiningAsked_station]
  · rfl
  · nofun

/-- R132: what the mode is set to at entry to JOINING. -/
structure ModeLogic.Joined (m : ModeLogic) : Prop where
  mode : m.mode = .off
  fan : m.fan = false
  offDelay : m.offDelay = none
  damper : m.damper = 0
  fullOpen : m.fullOpen = .stopped
  wantedCool : m.wantedCool = 0
  wantedHeat : m.wantedHeat = 0
  changeover : m.changeover = none
  yieldHold : m.yieldHold = none
  damperTimer : m.damperTimer = some damperPeriod

theorem State.enterJoining_joined (s : State) (cfg : ConfigRecord) :
    (s.enterJoining cfg).mode.Joined := by
  have kept : (s.joiningAsked cfg).formed.shut.changeover = (s.joiningAsked cfg).mode.changeover ∧
      (s.joiningAsked cfg).formed.shut.yieldHold = (s.joiningAsked cfg).mode.yieldHold ∧
      (s.joiningAsked cfg).formed.shut.damperTimer = (s.joiningAsked cfg).mode.damperTimer :=
    ⟨rfl, rfl, rfl⟩
  rw [State.joiningAsked_mode] at kept
  rw [State.enterJoining_mode]
  exact ⟨rfl, rfl, rfl, rfl, rfl, rfl, rfl, kept.1, kept.2.1, kept.2.2⟩

theorem State.enterJoining_stage (s : State) (cfg : ConfigRecord) :
    (s.enterJoining cfg).stage = s.stage.joining cfg := by
  rw [State.enterJoining_once, State.evaluateOnce_fan, State.joiningAsked_stage]
  rw [← State.evaluateOnce_mode, ← State.enterJoining_once, (s.enterJoining_joined cfg).fan,
    State.joiningAsked_mode]
  rfl

theorem State.enterJoining_adm (s : State) (cfg : ConfigRecord) :
    s.adm.SameButDenials (s.enterJoining cfg).adm :=
  State.evaluate_keeps (State.sameButDenials_keeps s.adm) _ .plain
    (by rw [State.requestState_adm]; exact .refl s.adm)

/-- What entry to JOINING from `s` leaves at the end of its event. -/
structure State.JoinedBy (s : State) (cfg : ConfigRecord) (t : State) : Prop where
  frame : (s.joiningQuietly cfg).stageFrame t
  fault : t.fault = s.fault
  stage : t.stage = { s.stage.joining cfg with presented := t.stage.presented }
  adm : s.adm.SameButDenials t.adm
  mode : t.mode.Joined
  asked : (s.joiningAsked cfg).link.StateAsked t.link

theorem State.enterJoining_fault (s : State) (cfg : ConfigRecord) :
    (s.enterJoining cfg).fault = s.fault := by
  rw [State.enterJoining_eq, State.evaluate_fault, State.requestState_fault]
  rfl

theorem State.enterJoining_asked (s : State) (cfg : ConfigRecord) :
    (s.joiningAsked cfg).link.StateAsked (s.enterJoining cfg).link := by
  rw [State.enterJoining_eq, ← State.joiningAsked]
  refine State.evaluate_stateAsked .plain ?_
  rw [State.joiningAsked_station]
  nofun

theorem State.enterJoining_settled (s before : State) (cfg : ConfigRecord) :
    s.JoinedBy cfg ((s.enterJoining cfg).settleInto before) := by
  have station := s.enterJoining_station cfg
  have entry := s.enterJoining_entry cfg
  have fault := s.enterJoining_fault cfg
  have stage := s.enterJoining_stage cfg
  have adm := s.enterJoining_adm cfg
  have mode := s.enterJoining_joined cfg
  have asked := s.enterJoining_asked cfg
  generalize s.enterJoining cfg = u at *
  have joining : u.station.state = .joining := by rw [station]
  have held : u.startsHeld = true := by
    rw [State.startsHeld_iff, joining]
    exact .inr rfl
  obtain ⟨sameAdm, sameMode, sameStage⟩ := State.settleInto_plant before held
  have settled := State.settleInto_frame u before
  have sameFault := State.settleInto_fault u before
  have requests := State.settleInto_stateAsked before (s := u) (by rw [joining]; nofun)
  generalize u.settleInto before = t at *
  exact
    { frame := State.stageFrame_trans entry settled
      fault := sameFault.trans fault
      stage := by rw [sameStage, stage]
      adm := sameAdm ▸ adm
      mode := sameMode ▸ mode
      asked := asked.trans requests }

/-- R50, R65: an entry of the table at entry to JOINING. -/
theorem State.entry_joining {s : State} {cfg : ConfigRecord} (h : s.table = RoofTable.joining cfg)
    {n : Nat} (h1 : 1 ≤ n) (h48 : n ≤ 48) :
    s.entry n = { Entry.blank with
      state := if n = cfg.station then .self else .empty
      mark := n != cfg.station && cfg.neighbours.contains n } := by
  have hn : n - 1 + 1 = n := by omega
  simp only [State.entry, h, RoofTable.joining, h1, h48, and_self, dite_true, Vector.getElem_ofFn,
    Entry.joining, hn]

namespace State.JoinedBy

variable {s t : State} {cfg : ConfigRecord}

theorem table (j : s.JoinedBy cfg t) : t.table = RoofTable.joining cfg := j.frame.table_eq

/-- R161: a slot after entry to JOINING. -/
theorem slot (j : s.JoinedBy cfg t) (i : Slot) :
    t.slot i = (s.slot i).joining (cfg.slots.get i) (powerReturnDelay cfg.station) := by
  rw [State.slot, j.stage]
  exact PerSlot.get_of _ i

theorem slot_fitted (j : s.JoinedBy cfg t) {i : Slot} (fitted : (cfg.slots.get i).fitted = true)
    (unlocked : s.stageState i ≠ .locked) :
    t.slot i =
      { s.slot i with
        state := .offLock, timer := some (powerReturnDelay cfg.station), prove := none } := by
  rw [j.slot, Stage.joining, if_pos fitted,
    if_neg (show (s.slot i).state ≠ .locked from unlocked)]

theorem slot_unfitted (j : s.JoinedBy cfg t) {i : Slot} (h : (cfg.slots.get i).fitted = false) :
    t.stageState i = .unfitted := by
  rw [State.stageState, j.slot, Stage.joining, if_neg (by simp [h])]

end State.JoinedBy

namespace State.JoinedBy

variable {s t : State} {cfg : ConfigRecord}

/-- R12, R24, R39: the Link Controller after entry to JOINING, from a quiet line. -/
theorem rolls (j : s.JoinedBy cfg t) (wire : s.link.onWire = none) :
    t.link.roll = true ∧ t.link.stateSlot.waiting = true := by
  have reports : (s.joiningQuietly cfg).station.state.reports = true := rfl
  have waiting := State.requestState_waiting true reports
  exact ⟨j.asked.roll waiting (State.requestState_rolls reports wire), j.asked.state waiting⟩

theorem order (j : s.JoinedBy cfg t) :
    t.stage.order = [] ∧ t.stage.interStage = none ∧ t.stage.fanProof = .idle ∧
      t.stage.fanProofTimer = none := by
  rw [j.stage]
  exact ⟨rfl, rfl, rfl, rfl⟩

end State.JoinedBy

/-- Settles O11: JOINING as entered, through the end of its event and its answer. -/
theorem startEntersJoining : Obligations.StartEntersJoining := by
  refine ⟨fun s cfg hp hb hs hc wire => ?_, fun s hp hb refused => ?_⟩
  · have runs : exec .start s = .next (State.answer
        ((State.enterJoining { s with svc.rx := .hunt } cfg).settleInto { s with svc.rx := .hunt })
        0x02 .ok) := by
      change execStart s = _
      rw [execStart, State.request_runs s _ hp hb]
      simp only [hs, hc]
    have j := State.enterJoining_settled { s with svc.rx := .hunt } { s with svc.rx := .hunt } cfg
    refine ⟨_, runs, ?_⟩
    generalize State.settleInto _ _ = t at j
    have svc : t.svc = { s.svc with rx := .hunt } := j.frame.svc_eq
    have kept : t.link.rxOn = true ∧ t.link.txOn = true ∧ t.link.rx = .discard ∧
        t.link.report = some 2000 := by
      rw [j.frame.2]
      exact ⟨rfl, rfl, rfl, rfl⟩
    obtain ⟨rxOn, txOn, rx, report⟩ := kept
    obtain ⟨roll, waiting⟩ := j.rolls wire
    obtain ⟨order, interStage, fanProof, _⟩ := j.order
    have ceiling : t.table.ceiling = cfg.ceiling := by
      rw [j.table]
      rfl
    have m := j.mode
    exact ⟨j.frame.station_eq, rxOn, txOn, rx, report, roll, waiting,
      fun n h1 h48 => State.entry_joining j.table h1 h48, j.frame.2, ceiling, j.adm.1,
      fun i fitted unlocked => ⟨congrArg Stage.state (j.slot_fitted fitted unlocked),
        congrArg Stage.timer (j.slot_fitted fitted unlocked)⟩,
      fun i unfitted => j.slot_unfitted unfitted, order, interStage, fanProof, m.mode, m.fan,
      m.damper, m.wantedCool, m.wantedHeat, m.changeover, m.yieldHold, m.damperTimer,
      by rw [State.answer, svc], j.frame.holding, j.frame.scan_eq, j.frame.inputs_eq, j.fault⟩
  · change execStart s = _
    rw [execStart, State.request_runs s _ hp hb]
    split
    · rename_i hs hc
      exact absurd ⟨hs, hc ▸ rfl⟩ refused
    · rfl

end Sys2Proof.Machine

/-! # RESTART (R11, R46, R64, R133, R138, R161, R178, R188) -/

namespace Sys2Proof.Machine

/-- R161: a slot after a restart. -/
theorem State.restarted_slot (s : State) (i : Slot) :
    s.restarted.slot i =
      { state := if s.stageState i = .locked then .locked else .unfitted
        timer := none, prove := none, history := (s.slot i).history } :=
  PerSlot.get_of _ i

theorem State.restarted_locked (s : State) (i : Slot) :
    s.restarted.stageState i = .locked ↔ s.stageState i = .locked := by
  rw [State.stageState, s.restarted_slot i]
  by_cases h : s.stageState i = .locked <;> simp [h]

/-- A restart's slots run nothing, prove nothing and keep their histories. -/
theorem State.restarted_idle (s : State) (i : Slot) :
    s.restarted.isRunning i = false ∧ (s.restarted.slot i).prove = none ∧
      (s.restarted.slot i).history = (s.slot i).history := by
  rw [State.isRunning_of_slot (s.restarted_slot i), s.restarted_slot i]
  refine ⟨?_, rfl, rfl⟩
  split <;> rfl

theorem Stage.joining_idle (r : Stage) (cfg : SlotConfig) (delay : Nat) :
    (r.joining cfg delay).state.running = false ∧ (r.joining cfg delay).prove = none ∧
      (r.joining cfg delay).history = r.history := by
  unfold Stage.joining
  split
  · split
    · rename_i locked
      exact ⟨by rw [locked]; rfl, rfl, rfl⟩
    · exact ⟨rfl, rfl, rfl⟩
  · exact ⟨rfl, rfl, rfl⟩

/-- R161: a fitted slot after the entry into JOINING. -/
theorem Stage.joining_fitted (r : Stage) {cfg : SlotConfig} (delay : Nat) (h : cfg.fitted = true) :
    (r.joining cfg delay).state = if r.state = .locked then .locked else .offLock := by
  rw [Stage.joining, if_pos h]
  split
  · assumption
  · rfl

/-- R187, R188: an input set afresh. -/
theorem State.input_afresh {t : State} {cfg : ConfigRecord} (h : t.inputs = inputsAfresh cfg)
    (r : InputRole) : t.input r = Input.afresh (cfg.inputs.get r) := by
  rw [State.input, h]
  exact PerInput.get_of _ r

theorem Input.afresh_accepted (c : InputConfig) :
    (Input.afresh c).accepted = if c.fitted then .unsettled else .unfitted := by
  unfold Input.afresh
  split <;> rfl

/-- R30, R31: a STATE with ROLL asked of a queue with no frame waiting is CURRENT. -/
theorem Link.rollAsked_current {l : Link} (leave : l.leaveSlot = .empty) (shed : l.shedSlot = .empty)
    (state : l.stateSlot = .empty) (n : Nat) :
    let k := (l.requestState true).select.count n
    k.stateSlot = .current ∧ k.roll = true ∧ k.leaveSlot.waiting = false ∧
      k.shedSlot.waiting = false := by
  have asked : (l.requestState true).select =
      { l with stateSlot := .current, roll := true, attempts := 1 } := by
    simp [Link.requestState, Link.select, Link.busy, leave, shed, state]
  have counted := Link.count_asked n (l.requestState true).select
  rw [asked] at counted ⊢
  exact ⟨counted.stateCurrent rfl, counted.roll rfl rfl, counted.leave.trans (by rw [leave]; rfl),
    counted.shed.trans (by rw [shed]; rfl)⟩

/-- The Link Controller that a restart with a record leaves: the STATE frame CURRENT with ROLL. -/
theorem State.restarted_asked (s : State) (cfg : ConfigRecord) :
    (s.restarted.joiningAsked cfg).link.stateSlot = .current ∧
      (s.restarted.joiningAsked cfg).link.roll = true ∧
      (s.restarted.joiningAsked cfg).link.leaveSlot.waiting = false ∧
      (s.restarted.joiningAsked cfg).link.shedSlot.waiting = false := by
  have reports : (s.restarted.joiningQuietly cfg).station.state.reports = true := rfl
  rw [State.joiningAsked, State.requestState, if_pos reports]
  exact Link.rollAsked_current rfl rfl rfl _

/-- R11: the parts a restart sets alike with and without a record. -/
structure State.RestartedAs (s t : State) : Prop where
  holding : s.sameHolding t
  fault : t.fault = s.fault
  adm : t.adm = .start
  scan : t.scan = s.scan.restart
  inputs : t.inputs = inputsAfresh s.cfg
  svc : t.svc = .start

/-- What entry into JOINING after a restart leaves of it. -/
theorem State.JoinedBy.restartedAs {s t : State} {cfg : ConfigRecord}
    (j : s.restarted.JoinedBy cfg t) : s.RestartedAs t where
  holding := j.frame.holding
  fault := j.fault
  adm := by
    obtain ⟨adm, kept⟩ := j.adm
    rw [adm, kept.elim id id]
    rfl
  scan := j.frame.scan_eq
  inputs := j.frame.inputs_eq
  svc := j.frame.svc_eq

/-- Without a record a restart ends in CONFIG: nothing but the presented request and the pins
follows. -/
theorem State.restarted_settled (s before : State) :
    s.RestartedAs (s.restarted.settleInto before) ∧
      s.restarted.stageFrame (s.restarted.settleInto before) ∧
      (s.restarted.settleInto before).mode = .start ∧
      (s.restarted.settleInto before).stage =
        { s.stage.restart with
          presented := (s.restarted.settleInto before).stage.presented } ∧
      (s.restarted.settleInto before).link = s.link.restart := by
  have held : s.restarted.startsHeld = true := (State.startsHeld_iff _).2 (.inr rfl)
  obtain ⟨adm, mode, stage⟩ := State.settleInto_plant before held
  have fault := State.settleInto_fault s.restarted before
  have link := State.settleInto_unasked (s := s.restarted) before rfl
  have frame := State.settleInto_frame s.restarted before
  generalize s.restarted.settleInto before = t at *
  exact ⟨⟨frame.holding, fault, adm, frame.scan_eq, frame.inputs_eq, frame.svc_eq⟩, frame, mode,
    stage, link⟩

namespace State.RestartedAs

variable {s t : State}

theorem sensor_eq (k : s.RestartedAs t) (ch : Channel) : t.sensor ch = (s.sensor ch).restart := by
  rw [State.sensor, k.scan]
  exact PerChannel.get_of _ ch

theorem accepted_eq (k : s.RestartedAs t) (r : InputRole) :
    t.accepted r = if (s.cfg.inputs.get r).fitted then .unsettled else .unfitted := by
  rw [State.accepted, State.input_afresh k.inputs, Input.afresh_accepted]

theorem sensor_reset (k : s.RestartedAs t) (ch : Channel) :
    (t.sensor ch).acc = 0 ∧ (t.sensor ch).value = none ∧ (t.sensor ch).clamped = false ∧
      (t.sensor ch).badStreak = 0 ∧ (t.sensor ch).goodStreak = 0 ∧ (t.sensor ch).cause = .none := by
  rw [k.sensor_eq]
  exact ⟨rfl, rfl, rfl, rfl, rfl, rfl⟩

theorem sensor_state (k : s.RestartedAs t) (ch : Channel) :
    (t.sensor ch).raw = (s.sensor ch).raw ∧
      (t.sensor ch).state = if (s.sensor ch).state = .unfitted then .unfitted else .unseen := by
  rw [k.sensor_eq]
  exact ⟨rfl, rfl⟩

theorem scan_reset (k : s.RestartedAs t) :
    t.scan.state = .normal ∧ t.scan.passStreak = 0 ∧ t.scan.failStreak = 0 ∧
      t.scan.timer = some 250 ∧ t.scan.scan = [] := by
  rw [k.scan]
  exact ⟨rfl, rfl, rfl, rfl, rfl⟩

end State.RestartedAs

/-- Settles O5: the restarted blocks, carried through the entry into JOINING where a record is held. -/
theorem restartKeepsAndResets : Obligations.RestartKeepsAndResets := by
  intro s hp
  have runs : exec .restart s = .next (s.doRestart.settleInto s) := State.event_runs s true _ hp rfl
  rw [State.doRestart_eq] at runs
  cases hc : s.config with
  | none =>
    simp only [hc] at runs
    refine ⟨_, runs, ?_⟩
    obtain ⟨k, frame, mode, stage, link⟩ := s.restarted_settled s
    generalize s.restarted.settleInto s = t at *
    have slot (i : Slot) : t.slot i = s.restarted.slot i := State.slot_congr (by rw [stage]; rfl) i
    have idle (i : Slot) : t.isRunning i = false ∧ (t.slot i).prove = none ∧
        (t.slot i).history = (s.slot i).history := by
      rw [State.isRunning, State.stageState, slot]
      exact s.restarted_idle i
    have order : t.stage.order = [] ∧ t.stage.interStage = none ∧ t.stage.fanProof = .idle ∧
        t.stage.fanProofTimer = none := by
      rw [stage]
      exact ⟨rfl, rfl, rfl, rfl⟩
    obtain ⟨order, interStage, fanProof, fanProofTimer⟩ := order
    obtain ⟨scanState, pass, fail, timer, scan⟩ := k.scan_reset
    simp only [Option.isSome_none, Bool.false_eq_true, if_false, false_implies, implies_true,
      true_and, mode, link, frame.table_eq, frame.station_eq]
    exact ⟨k.holding, k.fault, rfl, fun i => (idle i).2.2, fun i => ⟨(idle i).1, (idle i).2.1⟩,
      order, interStage, k.adm, rfl, rfl, rfl, rfl, rfl, rfl, rfl, rfl, rfl, rfl,
      fun _ => State.entry_start t frame.table_eq, rfl, k.svc, rfl, rfl, rfl, rfl, rfl, rfl, rfl, rfl, rfl,
      k.sensor_state, k.sensor_reset, scanState, pass, fail, timer, scan, fanProof, fanProofTimer,
      k.accepted_eq⟩
  | some cfg =>
    simp only [hc] at runs
    refine ⟨_, runs, ?_⟩
    have j := s.restarted.enterJoining_settled s cfg
    generalize State.settleInto _ _ = t at *
    have k := j.restartedAs
    have cfgIs : s.cfg = cfg := by rw [State.cfg, hc]; rfl
    have idle (i : Slot) : t.isRunning i = false ∧ (t.slot i).prove = none ∧
        (t.slot i).history = (s.slot i).history := by
      rw [State.isRunning, State.stageState, j.slot, ← (s.restarted_idle i).2.2]
      exact Stage.joining_idle _ _ _
    have fitted (i : Slot) (h : (s.slotConfig i).fitted = true) :
        t.stageState i = if s.stageState i = .locked then .locked else .offLock := by
      rw [State.slotConfig, cfgIs] at h
      rw [State.stageState, j.slot, Stage.joining_fitted _ _ h]
      exact if_congr (s.restarted_locked i) rfl rfl
    have delay (i : Slot) (h : (s.slotConfig i).fitted = true) (hl : s.stageState i ≠ .locked) :
        (t.slot i).timer = some ((20 + (s.number - 1) * 3) * 1000) := by
      rw [State.slotConfig, cfgIs] at h
      rw [j.slot_fitted h (mt (s.restarted_locked i).1 hl), State.number, cfgIs]
      rfl
    have link : t.link.drops = 0 ∧ t.link.rejected = 0 ∧ t.link.testCount = 0 ∧
        t.link.spacing = none ∧ t.link.rxOn = true := by
      rw [j.frame.2]
      exact ⟨rfl, rfl, rfl, rfl, rfl⟩
    obtain ⟨drops, rejected, testCount, spacing, rxOn⟩ := link
    obtain ⟨current, roll, leave, shed⟩ := s.restarted_asked cfg
    have waits : (s.restarted.joiningAsked cfg).link.stateSlot.waiting = true := by
      rw [current]
      rfl
    obtain ⟨order, interStage, fanProof, fanProofTimer⟩ := j.order
    obtain ⟨scanState, pass, fail, timer, scan⟩ := k.scan_reset
    have m := j.mode
    simp only [Option.isSome_some, if_true, forall_const, reduceCtorEq, false_implies, true_and,
      State.number, cfgIs]
    rw [State.number, cfgIs] at delay
    exact ⟨k.holding, k.fault, j.frame.station_eq, fun i => (idle i).2.2, fitted, delay,
      fun i => ⟨(idle i).1, (idle i).2.1⟩, order, interStage, k.adm, m.fan, m.damper, m.mode,
      m.wantedCool, m.wantedHeat, m.changeover, m.yieldHold, m.offDelay, m.fullOpen, m.damperTimer,
      fun n h1 h48 => State.entry_joining j.table h1 h48, by rw [j.table]; rfl, k.svc, drops,
      rejected, testCount, spacing, SlotState.empty_of_not_waiting (j.asked.leave.trans leave),
      SlotState.empty_of_not_waiting (j.asked.shed.trans shed), j.asked.stateCurrent current,
      j.asked.roll waits roll, rxOn, k.sensor_state, k.sensor_reset, scanState, pass, fail, timer,
      scan, fanProof, fanProofTimer, fun r => cfgIs ▸ k.accepted_eq r⟩

end Sys2Proof.Machine

/-! # The record (R10, R177, R187, R201, R202, R205) -/

namespace Sys2Proof.Machine

theorem Sensor.afresh_fields (raw : BitVec 12) (fitted : Bool) (n : ScannerState) :
    (Sensor.afresh raw fitted n).raw = raw ∧ (Sensor.afresh raw fitted n).value = none ∧
      (Sensor.afresh raw fitted n).acc = 0 ∧ (Sensor.afresh raw fitted n).clamped = false ∧
      (Sensor.afresh raw fitted n).badStreak = 0 ∧ (Sensor.afresh raw fitted n).goodStreak = 0 := by
  cases fitted with
  | false => exact ⟨rfl, rfl, rfl, rfl, rfl, rfl⟩
  | true => cases n <;> exact ⟨rfl, rfl, rfl, rfl, rfl, rfl⟩

/-- R177: the state of a channel set afresh, and its cause. -/
theorem Sensor.afresh_state (raw : BitVec 12) (fitted : Bool) (n : ScannerState) :
    (Sensor.afresh raw fitted n).state =
        (if fitted = true then (if n = .normal then .unseen else .invalid) else .unfitted) ∧
      (Sensor.afresh raw fitted n).cause =
        if fitted = true ∧ n = .suspect then .reference else .none := by
  cases fitted with
  | false => exact ⟨rfl, rfl⟩
  | true => cases n <;> exact ⟨rfl, rfl⟩

/-- R187: the streak, candidate and timer of an input set afresh. -/
theorem Input.afresh_fields (c : InputConfig) :
    (Input.afresh c).streak = 0 ∧ (Input.afresh c).candidate = none ∧
      (Input.afresh c).timer = if c.fitted then some (sampleInterval c.filter) else none := by
  unfold Input.afresh
  split <;> exact ⟨rfl, rfl, rfl⟩

/-- R180, R182: the sample interval that a record's byte gives. -/
theorem sampleInterval_readInput (n : Nat) :
    sampleInterval (readInput n).filter =
      match n / 4 % 4 with
      | 0 => 1
      | 1 => 2
      | 2 => 20
      | _ => 200 := by
  simp only [readInput]
  generalize n / 4 % 4 = k
  match k with
  | 0 => rfl
  | 1 => rfl
  | 2 => rfl
  | _ + 3 => rfl

theorem State.takeRecord_sensor (s : State) (cfg : ConfigRecord) (ch : Channel) :
    (s.takeRecord cfg).sensor ch =
      Sensor.afresh (s.sensor ch).raw (cfg.channels.get ch) s.scan.state :=
  PerChannel.get_of _ ch

theorem State.takeRecord_input (s : State) (cfg : ConfigRecord) (r : InputRole) :
    (s.takeRecord cfg).input r = Input.afresh (cfg.inputs.get r) :=
  PerInput.get_of _ r

/-- R177: which channels a record fits. -/
theorem readRecord_channel (b : List Byte) (ch : Channel) :
    (readRecord b).channels.get ch = (byteAt b 57).testBit ch.number := PerChannel.get_of _ ch

theorem readRecord_input (b : List Byte) (r : InputRole) :
    (readRecord b).inputs.get r = readInput (byteAt b (58 + inputPin r)) := PerInput.get_of _ r

/-- Settles O10: the four answers of CONFIGURE, one per branch. -/
theorem configureTakesAValidRecord : Obligations.ConfigureTakesAValidRecord := by
  refine ⟨fun s b hp hb hs hl valid => ?_, fun s b n hp hb hs hl invalid => ?_,
    fun s b hp hb hs hl => ?_, fun s b hp hb hl => ?_⟩
  · have runs : exec (.configure b) s = .next
        ((State.takeRecord { s with svc.rx := .hunt } (readRecord b)).drivePins.answer 0x01 .ok) := by
      change execConfigure b s = _
      rw [execConfigure, State.request_runs s _ hp hb]
      simp only [hl, hs, valid, ne_eq, not_true_eq_false, if_false]
    refine ⟨_, runs, ?_⟩
    have sensor (ch : Channel) :=
      State.takeRecord_sensor { s with svc.rx := .hunt } (readRecord b) ch
    have input (r : InputRole) :=
      State.takeRecord_input { s with svc.rx := .hunt } (readRecord b) r
    simp only [readRecord_channel, readRecord_input] at sensor input
    refine ⟨rfl, rfl, rfl, fun ch => ?_, fun ch => ?_, fun ch => ?_, fun r => ?_, fun r => ?_, rfl,
      rfl⟩
    · exact (congrArg Sensor.state (sensor ch)).trans (Sensor.afresh_state _ _ _).1
    · obtain ⟨raw, value, acc, clamped, -, -⟩ := Sensor.afresh_fields (s.sensor ch).raw
        ((byteAt b 57).testBit ch.number) s.scan.state
      exact ⟨(congrArg Sensor.value (sensor ch)).trans value,
        (congrArg Sensor.acc (sensor ch)).trans acc,
        (congrArg Sensor.clamped (sensor ch)).trans clamped,
        (congrArg Sensor.raw (sensor ch)).trans raw⟩
    · obtain ⟨-, -, -, -, bad, good⟩ := Sensor.afresh_fields (s.sensor ch).raw
        ((byteAt b 57).testBit ch.number) s.scan.state
      exact ⟨(congrArg Sensor.badStreak (sensor ch)).trans bad,
        (congrArg Sensor.goodStreak (sensor ch)).trans good,
        (congrArg Sensor.cause (sensor ch)).trans (Sensor.afresh_state _ _ _).2⟩
    · exact (congrArg Input.accepted (input r)).trans (Input.afresh_accepted _)
    · obtain ⟨streak, candidate, timer⟩ :=
        Input.afresh_fields (readInput (byteAt b (58 + inputPin r)))
      rw [sampleInterval_readInput] at timer
      exact ⟨(congrArg Input.streak (input r)).trans streak,
        (congrArg Input.candidate (input r)).trans candidate,
        (congrArg Input.timer (input r)).trans timer⟩
  · change execConfigure b s = _
    rw [execConfigure, State.request_runs s _ hp hb]
    simp only [hl, hs, invalid, ne_eq, not_true_eq_false, if_false]
    rfl
  · change execConfigure b s = _
    rw [execConfigure, State.request_runs s _ hp hb]
    simp only [hl, hs, ne_eq, not_true_eq_false, not_false_eq_true, if_false, if_true]
    rfl
  · change execConfigure b s = _
    rw [execConfigure, State.request_runs s _ hp hb]
    simp only [hl, ne_eq, not_false_eq_true, if_true]
    rfl

end Sys2Proof.Machine

/-! # Changes of the station state, at the end of their event (R4, R15, R18, R19, R21, R32) -/

namespace Sys2Proof.Machine

/-! ## What a change of the station state can write -/

/-- Beside the station, what an event of the plant can write; the link is spoken of apart. -/
def State.entryFrame (s t : State) : Prop :=
  t = { s with
    station := t.station, link := t.link, adm := t.adm, mode := t.mode, stage := t.stage
    fault := t.fault, pins := t.pins }

theorem State.entryFrame_trans {a b c : State} (h : a.entryFrame b) (k : b.entryFrame c) :
    a.entryFrame c := by
  unfold State.entryFrame at *
  rw [k, h]

theorem State.stageFrame.entryFrame {s t : State} (h : s.stageFrame t) : s.entryFrame t := by
  unfold State.entryFrame
  rw [h.1]

theorem State.setStation_entryFrame (s : State) (new : StationState) (cause : IsolationCause) :
    s.entryFrame (s.setStation new cause) := by
  unfold State.entryFrame
  rw [s.setStation_eq new cause]

/-- The frame in the obligations' words. -/
theorem State.entryFrame.stageFrame {s t : State} (h : s.entryFrame t)
    (link : s.link.sameButQueue t.link) : s.stageFrame { t with station := s.station } := by
  unfold State.entryFrame at h
  exact ⟨by rw [h], link⟩

theorem Link.dropShed_sameButQueue (l : Link) :
    ({ l with abandoned := l.dropShed.abandoned } : Link).sameButQueue l.dropShed := by
  unfold Link.dropShed
  dsimp only
  split
  · rfl
  · rfl
  · split <;> rfl

/-- With nothing on the wire the SHED slot alone goes. -/
theorem Link.dropShed_offWire {l : Link} (h : l.onWire = none) : l.sameButQueue l.dropShed := by
  unfold Link.dropShed
  dsimp only
  split
  · rfl
  · rfl
  · rw [if_neg (by simp [h])]
    rfl

theorem Link.dropShed_held (l : Link) : l.dropShed.heldShed = none := by
  unfold Link.dropShed
  dsimp only
  split
  · rfl
  · rfl
  · split <;> rfl

theorem State.setStation_leaving {s : State} {new : StationState} (cause : IsolationCause)
    (h : s.station.state = .sharing) (hn : new ≠ .sharing) :
    (s.setStation new cause).link = s.link.dropShed := by
  rw [State.setStation]
  dsimp only
  rw [if_pos ⟨h, hn⟩]

/-- From any state but SHARING a change of station state reaches the station alone. -/
theorem State.setStation_apart {s : State} (new : StationState) (cause : IsolationCause)
    (h : s.station.state ≠ .sharing) :
    s.setStation new cause = { s with station.state := new, station.cause := cause } := by
  rw [State.setStation]
  dsimp only
  rw [if_neg fun hs => h hs.1]

/-- With nothing on the wire, or from another state than SHARING, the queue alone goes. -/
theorem State.setStation_sameButQueue {s : State} (new : StationState) (cause : IsolationCause)
    (h : s.station.state ≠ .sharing ∨ s.link.onWire = none) :
    s.link.sameButQueue (s.setStation new cause).link := by
  by_cases leaving : s.station.state = .sharing ∧ new ≠ .sharing
  · rw [State.setStation_leaving cause leaving.1 leaving.2]
    exact Link.dropShed_offWire (h.resolve_left fun apart => apart leaving.1)
  · rw [State.setStation]
    dsimp only
    rw [if_neg leaving]
    rfl

/-! ## An entry at the end of its event -/

/-- What `t` is after the station was set from `s` to `new` and `cause`, and an event of the plant
followed. -/
structure State.EntersAs (s : State) (new : StationState) (cause : IsolationCause) (t : State) :
    Prop where
  station : t.station = { s.station with state := new, cause := cause }
  frame : s.entryFrame t
  link : (s.setStation new cause).link.sameButQueue t.link

theorem State.EntersAs.of_frame {s t : State} {new : StationState} {cause : IsolationCause}
    (h : (s.setStation new cause).stageFrame t) : s.EntersAs new cause t where
  station := h.station_eq.trans (s.setStation_station new cause)
  frame := State.entryFrame_trans (s.setStation_entryFrame new cause) h.entryFrame
  link := h.2

theorem State.EntersAs.trans {s t u : State} {new : StationState} {cause : IsolationCause}
    (h : s.EntersAs new cause t) (k : t.stageFrame u) : s.EntersAs new cause u where
  station := k.station_eq.trans h.station
  frame := State.entryFrame_trans h.frame k.entryFrame
  link := Link.sameButQueue_trans h.link k.2

theorem State.EntersAs.sameButQueue {s t : State} {new : StationState} {cause : IsolationCause}
    (h : s.EntersAs new cause t) (quiet : s.station.state ≠ .sharing ∨ s.link.onWire = none) :
    s.link.sameButQueue t.link :=
  Link.sameButQueue_trans (State.setStation_sameButQueue new cause quiet) h.link

theorem State.enterIsolated_enters (s : State) (cause : IsolationCause) :
    s.EntersAs .isolated cause (s.enterIsolated cause) := .of_frame (s.enterIsolated_entry cause)

theorem State.enterShutdown_enters (s : State) :
    s.EntersAs .shutdown .none s.enterShutdown := .of_frame s.enterShutdown_entry

theorem State.enterWorking_enters (s : State) (new : StationState) :
    s.EntersAs new .none (s.enterWorking new) := .of_frame (s.enterWorking_entry new)

/-! ## The Fault Capture at an entry -/

theorem State.setStation_fault (s : State) (new : StationState) (cause : IsolationCause) :
    (s.setStation new cause).fault = s.fault := by
  rw [s.setStation_eq new cause]

theorem State.blind_admissionIdle_fault (s : State) : s.admissionIdle.fault = s.fault :=
  State.admissionIdle_keeps (P := fun t => t.fault = s.fault) (State.blind_fault s.fault).keeps
    (fun t i h => (State.blind_fault s.fault).stage h (t.unclaimSlot_eq i)) s rfl

/-- The end of an entry raises nothing. -/
theorem State.entryEnd_fault (s before : State) :
    (s.admissionIdle.requestState.entered before).fault = s.fault := by
  rw [State.entered_fault, State.requestState_fault, State.blind_admissionIdle_fault]

theorem State.stopToCap_fault (s : State) : s.stopToCap.fault = s.fault :=
  State.stopToCap_keeps (State.blind_fault s.fault).keeps s rfl

theorem State.stopAll_fault (s : State) : s.stopAll.fault = s.fault :=
  State.stopAll_keeps (State.blind_fault s.fault).keeps s rfl

theorem State.enterWorking_fault (s : State) (new : StationState) :
    (s.enterWorking new).fault = s.fault := by
  rw [State.enterWorking, State.entryEnd_fault, State.setStation_fault]

theorem State.enterIsolated_fault (s : State) {cause : IsolationCause} (h : cause ≠ .silent) :
    (s.enterIsolated cause).fault = s.fault := by
  rw [State.enterIsolated_of_ne s h, State.isolatedQuietly, State.entryEnd_fault,
    State.stopToCap_fault, State.setStation_fault]

/-- R15: entry into ISOLATED with cause SILENT leaves LINK_SILENT held. -/
theorem State.enterIsolated_raises (s : State) :
    Category.linkSilent.within (s.enterIsolated .silent).fault.heldSet = true := by
  rw [State.enterIsolated_silent]
  exact State.raise_holds _ _

theorem State.settleInto_holds {s : State} (before : State) {c : Category}
    (h : c.within s.fault.heldSet = true) : c.within (s.settleInto before).fault.heldSet = true := by
  rw [State.settleInto_fault]
  exact h

/-- A raise writes the Fault Capture alone. -/
theorem State.raise_eq (s : State) (c : Category) :
    s.raise c = { s with fault := (s.raise c).fault } := by
  unfold State.raise
  split
  · rfl
  · split <;> rfl

/-! ## Outside SHARING -/

theorem State.offer_elsewhere {s : State} (h : s.station.state ≠ .sharing) : s.offer = 0 := by
  rw [State.offer, State.offeredSlot, if_neg fun hs => h hs.1]

/-- In SHUTDOWN, LEFT, CONFIG and JOINING an event that reaches no plant block ends with the presented
request and the pins alone. -/
theorem State.settleInto_outside {s before : State} (h : s.station.state.working = false)
    (hb : before.station.state ≠ .sharing) :
    s.settleInto before =
      { s with
        stage.presented := (s.settleInto before).stage.presented
        pins := (s.settleInto before).pins } := by
  have outside : s.station.state ≠ .sharing := by
    intro hs
    rw [hs] at h
    cases h
  refine State.settleInto_held ((State.startsHeld_iff s).2 (.inr h)) ?_
  rw [State.offer_elsewhere outside, State.offer_elsewhere hb]

/-! ## A duplicate number (R18, R43) -/

/-- The frame of another identity: what its handler sees, and the run. -/
theorem State.duplicateDetected_runs {s : State} {frame : List Byte} {f : Frame}
    (hp : s.powered = true) (hr : s.link.canReceive = true) (hf : parseFrame frame = some f)
    (hn : f.station = s.number) (hi : f.identity ≠ s.identity) :
    exec (.duplicateDetected frame) s =
      .next ((State.duplicateFound { s with link := s.link.complete }).settleInto s) := by
  obtain ⟨n, identity, body⟩ := f
  have hn : n = s.number := hn
  have hi : identity ≠ s.identity := hi
  change execDuplicateDetected frame s = _
  rw [execDuplicateDetected, hf]
  exact State.event_runs s _ _ hp (by simp [hr, hn, hi])

theorem Link.canReceive.offWire {l : Link} (h : l.canReceive = true) : l.onWire = none := by
  simp only [Link.canReceive, Bool.and_eq_true, Option.isNone_iff_eq_none] at h
  exact h.1.1.2

/-- R25: what the end of a frame leaves of the receiver. -/
theorem Link.complete_sameButQueue (l : Link) :
    ({ l with idle := false, rx := .discard, afterFrame := true } : Link).sameButQueue
      l.complete := rfl

/-- R18: what a duplicate does to a station that joins or works. -/
theorem State.duplicateFound_isolates {s : State}
    (h : s.station.state = .joining ∨ s.station.state = .sharing ∨ s.station.state = .solo ∨
      s.station.state = .isolated) (wire : s.link.onWire = none) :
    s.duplicateFound.station =
        { s.station with
          state := .isolated, cause := .duplicate, duplicate := true
          join := if s.station.state = .joining then none else s.station.join } ∧
      s.entryFrame s.duplicateFound ∧ s.link.sameButQueue s.duplicateFound.link ∧
      Category.duplicate.within s.duplicateFound.fault.heldSet = true := by
  have entered (x : StationCtl) (t : State)
      (ht : t = (State.enterIsolated { s with station := x } .duplicate).raise .duplicate) :
      t.station = { x with state := .isolated, cause := .duplicate } ∧ s.entryFrame t ∧
        s.link.sameButQueue t.link ∧ Category.duplicate.within t.fault.heldSet = true := by
    have e := (State.enterIsolated_enters { s with station := x } .duplicate).trans
      (State.raise_frame _ .duplicate)
    have held := State.raise_holds
      (State.enterIsolated { s with station := x } .duplicate) .duplicate
    rw [← ht] at e held
    have moved : s.entryFrame { s with station := x } := rfl
    exact ⟨e.station, State.entryFrame_trans moved e.frame, e.sameButQueue (.inr wire), held⟩
  rcases h with hs | hs | hs | hs
  · obtain ⟨station, rest⟩ := entered { s.station with duplicate := true, join := none }
      s.duplicateFound (by rw [State.duplicateFound]; simp only [hs])
    exact ⟨by rw [station, if_pos hs], rest⟩
  · obtain ⟨station, rest⟩ := entered { s.station with duplicate := true }
      s.duplicateFound (by rw [State.duplicateFound]; simp only [hs])
    exact ⟨by rw [station, if_neg (by simp [hs])], rest⟩
  · obtain ⟨station, rest⟩ := entered { s.station with duplicate := true }
      s.duplicateFound (by rw [State.duplicateFound]; simp only [hs])
    exact ⟨by rw [station, if_neg (by simp [hs])], rest⟩
  · have found : s.duplicateFound =
        ({ s with station.cause := .duplicate, station.duplicate := true } : State).raise
          .duplicate := by
      rw [State.duplicateFound]
      simp only [hs]
    rw [found, if_neg (by simp [hs])]
    have frame := State.raise_frame
      { s with station.cause := .duplicate, station.duplicate := true } .duplicate
    refine ⟨by rw [State.raise_station, ← hs], ?_, frame.2, State.raise_holds _ _⟩
    exact State.entryFrame_trans
      (b := { s with station.cause := .duplicate, station.duplicate := true }) rfl frame.entryFrame

/-- Settles O28: the station a duplicate leaves, by the state it is found in. -/
theorem duplicateIsolates : Obligations.DuplicateIsolates := by
  refine ⟨fun s frame f hp hr hf hn hi hs => ?_, fun s frame f hp hr hf hn hi hs => ?_,
    fun s frame f hp hr hf hn hi hs => ?_⟩
  all_goals
    refine ⟨_, State.duplicateDetected_runs hp hr hf hn hi, ?_⟩
  · have wire : s.link.onWire = none := Link.canReceive.offWire hr
    obtain ⟨station, entry, link, held⟩ := State.duplicateFound_isolates
      (s := { s with link := s.link.complete }) hs wire
    have settled := State.settleInto_frame
      (State.duplicateFound { s with link := s.link.complete }) s
    have held := State.settleInto_holds s held
    generalize State.duplicateFound _ = u at *
    refine ⟨settled.station_eq.trans station, held,
      Link.sameButQueue_trans s.link.complete_sameButQueue
        (Link.sameButQueue_trans link settled.2), ?_⟩
    exact State.entryFrame_trans (b := { s with link := s.link.complete }) rfl
      (State.entryFrame_trans entry settled.entryFrame)
  · have found : State.duplicateFound { s with link := s.link.complete } =
        ({ s with link := s.link.complete, station.duplicate := true } : State).raise
          .duplicate := by
      rw [State.duplicateFound]
      simp only [hs]
    have held := State.raise_holds
      { s with link := s.link.complete, station.duplicate := true } .duplicate
    rw [found]
    rw [State.raise_eq] at held ⊢
    generalize (State.raise _ _).fault = fault at *
    rw [State.settleInto_outside (by simp [hs, StationState.working]) (by simp [hs])]
    exact ⟨rfl, held, s.link.complete_sameButQueue, rfl, rfl⟩
  · have found : State.duplicateFound { s with link := s.link.complete } =
        { s with link := s.link.complete } := by
      rw [State.duplicateFound]
      simp only [hs]
    rw [found, State.settleInto_outside (by simp [hs, StationState.working]) (by simp [hs])]
    exact ⟨s.link.complete_sameButQueue, rfl, rfl⟩

end Sys2Proof.Machine

/-! # Samples of the inputs (R181 to R185) -/

namespace Sys2Proof.Machine

theorem samplesToAccept_le (f : Filter) (n : Nat) (h : f = .none ∨ 2 ≤ n) :
    ¬ n + 1 < samplesToAccept f := by
  cases f <;> simp_all [samplesToAccept]

/-- R182: the sample that changes a settled input. -/
theorem Input.sample_accepts {i : Input} {c : InputConfig} {level : Bool}
    (settled : i.accepted = acceptedOf (!level)) (streak : c.filter = .none ∨ 2 ≤ i.streak) :
    (i.sample c level).2 = (if level then .activated else .deactivated) ∧
      (i.sample c level).1.accepted = acceptedOf level := by
  have enough := samplesToAccept_le c.filter i.streak streak
  cases level <;>
    simp [Input.sample, Input.sampleSettled, settled, acceptedOf, if_neg enough]

/-- R183: the sample that settles an input. -/
theorem Input.sample_settles {i : Input} {c : InputConfig} {level : Bool}
    (unsettled : i.accepted = .unsettled)
    (streak : c.filter = .none ∨ i.candidate = some level ∧ 2 ≤ i.streak) :
    (i.sample c level).2 = .settled level ∧ (i.sample c level).1.accepted = acceptedOf level := by
  have enough : ¬ (if i.candidate = some level then i.streak + 1 else 1) <
      samplesToAccept c.filter := by
    rcases streak with none | ⟨same, streak⟩
    · rw [none]
      split <;> simp [samplesToAccept]
    · rw [if_pos same]
      exact samplesToAccept_le _ _ (.inr streak)
  simp only [Input.sample, unsettled, Input.sampleUnsettled, if_neg enough, and_self]

namespace State

variable {s : State} {r : InputRole} {pinHigh active : Bool}

/-- The run of a sample of a fitted input. -/
theorem inputSample_runs (hp : s.powered = true) (timer : (s.input r).timer.isSome = true)
    (fitted : s.accepted r ≠ .unfitted) :
    exec (.inputSample r pinHigh) s =
      .next (((s.sampleInput r pinHigh).settleStarts s).raiseInput r
        (s.sampled r pinHigh).2).drivePins := by
  change execInputSample r pinHigh s = _
  simp [execInputSample, State.eventThen, hp, timer, fitted]

/-- A sample whose event raises nothing ends as every event does. -/
theorem raiseInput_none {t : State} {e : InputEvent}
    (h : e.raises = false ∨ inputCategory r = none) : t.raiseInput r e = t := by
  unfold State.raiseInput
  rcases h with h | h
  · split
    · simp [h]
    · rfl
  · rw [h]

theorem raiseInput_own {t : State} {e : InputEvent} {c : Category} (hr : inputCategory r = some c)
    (h : e.raises = true) : t.raiseInput r e = t.raise c := by
  simp [State.raiseInput, hr, h]

theorem accepts_iff : s.accepts r pinHigh active = true ↔
    s.powered = true ∧ (s.input r).timer.isSome = true ∧ s.accepted r = acceptedOf (!active) ∧
      activeLevel (s.cfg.inputs.get r).polarity pinHigh = active ∧
      ((s.cfg.inputs.get r).filter = .none ∨ 2 ≤ (s.input r).streak) := by
  simp [State.accepts, and_assoc]

theorem settles_iff : s.settles r pinHigh active = true ↔
    s.powered = true ∧ (s.input r).timer.isSome = true ∧ s.accepted r = .unsettled ∧
      activeLevel (s.cfg.inputs.get r).polarity pinHigh = active ∧
      ((s.cfg.inputs.get r).filter = .none ∨
        (s.input r).candidate = some active ∧ 2 ≤ (s.input r).streak) := by
  simp [State.settles, and_assoc]

/-- R182: what an accepted change brings, and its run. -/
theorem sampled_accepts (h : s.accepts r pinHigh active = true) :
    (s.sampled r pinHigh).2 = (if active then .activated else .deactivated) ∧
      (s.sampled r pinHigh).1.accepted = acceptedOf active := by
  obtain ⟨_, _, settled, level, streak⟩ := accepts_iff.1 h
  rw [State.sampled, level]
  exact Input.sample_accepts settled streak

theorem sampled_settles (h : s.settles r pinHigh active = true) :
    (s.sampled r pinHigh).2 = .settled active ∧
      (s.sampled r pinHigh).1.accepted = acceptedOf active := by
  obtain ⟨_, _, unsettled, level, streak⟩ := settles_iff.1 h
  rw [State.sampled, level]
  exact Input.sample_settles unsettled streak

theorem accepts_runs (h : s.accepts r pinHigh active = true) :
    exec (.inputSample r pinHigh) s =
      .next (((State.deliverInput (s.setInput r (s.sampled r pinHigh).1) r
          (if active then .activated else .deactivated)).settleStarts s).raiseInput r
        (if active then .activated else .deactivated)).drivePins := by
  obtain ⟨hp, timer, settled, _, _⟩ := accepts_iff.1 h
  rw [inputSample_runs hp timer (by rw [settled]; cases active <;> nofun), State.sampleInput,
    (sampled_accepts h).1]

theorem settles_runs (h : s.settles r pinHigh active = true) :
    exec (.inputSample r pinHigh) s =
      .next (((State.deliverInput (s.setInput r (s.sampled r pinHigh).1) r
          (.settled active)).settleStarts s).raiseInput r (.settled active)).drivePins := by
  obtain ⟨hp, timer, unsettled, _, _⟩ := settles_iff.1 h
  rw [inputSample_runs hp timer (by rw [unsettled]; nofun), State.sampleInput,
    (sampled_settles h).1]

/-- An entry after a sample, seen from before the sample. -/
theorem entryFrame_inputs {t : State} {x : PerInput Input}
    (h : ({ s with inputs := x } : State).entryFrame t) :
    s.entryFrame { t with inputs := s.inputs } := by
  unfold State.entryFrame at *
  rw [h]

end State

/-! # The join decision, and SMOKE clearing in SHUTDOWN (R13, R21) -/

/-- The table's entries are the entries of stations 1 to 48. -/
theorem State.mem_entries (s : State) (e : Entry) :
    e ∈ s.table.entries.toList ↔ ∃ n : Nat, (1 ≤ n ∧ n ≤ 48) ∧ s.entry n = e := by
  rw [Vector.mem_toList_iff]
  constructor
  · intro he
    obtain ⟨i, hi, rfl⟩ := Vector.getElem_of_mem he
    refine ⟨i + 1, ⟨by omega, by omega⟩, ?_⟩
    rw [State.entry, dif_pos ⟨by omega, by omega⟩]
    rfl
  · rintro ⟨n, hn, rfl⟩
    rw [State.entry, dif_pos hn]
    exact Vector.getElem_mem _

theorem State.entry_outside (s : State) {n : Nat} (h : ¬ (1 ≤ n ∧ n ≤ 48)) :
    s.entry n = Entry.blank := dif_neg h

/-- R13: some entry is FRESH. -/
theorem State.anyFresh_iff (s : State) :
    s.anyFresh = true ↔ ∃ n : Nat, (s.entry n).state = .fresh := by
  simp only [State.anyFresh, List.any_eq_true, beq_iff_eq, s.mem_entries]
  constructor
  · rintro ⟨e, ⟨n, _, rfl⟩, fresh⟩
    exact ⟨n, fresh⟩
  · rintro ⟨n, fresh⟩
    refine ⟨_, ⟨n, ?_, rfl⟩, fresh⟩
    by_contra outside
    rw [s.entry_outside outside] at fresh
    cases fresh

/-- What a JOIN_EXPIRY that decides for `new` and `cause` leaves. -/
theorem State.EntersAs.joined {s t : State} {new : StationState} {cause : IsolationCause}
    (e : ({ s with station.join := none } : State).EntersAs new cause t)
    (hs : s.station.state = .joining) :
    t.station = { s.station with state := new, cause := cause, join := none } ∧
      s.stageFrame { t with station := s.station } := by
  have moved : s.entryFrame { s with station.join := none } := rfl
  refine ⟨e.station, (State.entryFrame_trans moved e.frame).stageFrame (e.sameButQueue (.inl ?_))⟩
  show s.station.state ≠ .sharing
  simp [hs]

theorem State.joinExpiry_runs {s : State} (hp : s.powered = true)
    (hs : s.station.state = .joining) (hj : s.station.join.isSome = true) :
    exec .joinExpiry s =
      .next ((State.joinDecision { s with station.join := none }).settleInto s) := by
  change execJoinExpiry s = _
  rw [execJoinExpiry, State.event_runs s _ _ hp (by simp [hs, hj])]

/-- What leaving SHUTDOWN for `new` and `cause` comes to. -/
structure State.Reopens (s : State) (new : StationState) (cause : IsolationCause) (t : State) :
    Prop where
  enters : s.EntersAs new cause t
  waiting : t.link.stateSlot.waiting = true
  silent : cause = .silent → Category.linkSilent.within t.fault.heldSet = true
  fault : cause ≠ .silent → t.fault = s.fault

theorem State.enterIsolated_reopens (s : State) (cause : IsolationCause) :
    s.Reopens .isolated cause (s.enterIsolated cause) where
  enters := s.enterIsolated_enters cause
  waiting := s.enterIsolated_waiting cause
  silent h := by
    subst h
    exact s.enterIsolated_raises
  fault h := s.enterIsolated_fault h

theorem State.enterWorking_reopens (s : State) {new : StationState} (h : new.reports = true) :
    s.Reopens new .none (s.enterWorking new) where
  enters := s.enterWorking_enters new
  waiting := s.enterWorking_waiting h
  silent h := by cases h
  fault _ := s.enterWorking_fault new

theorem State.Reopens.settled {s t : State} {new : StationState} {cause : IsolationCause}
    (h : s.Reopens new cause t) (before : State) : s.Reopens new cause (t.settleInto before) where
  enters := h.enters.trans (State.settleInto_frame t before)
  waiting := (State.settleInto_asked t before).state h.waiting
  silent hc := State.settleInto_holds before (h.silent hc)
  fault hc := (State.settleInto_fault t before).trans (h.fault hc)

/-- R21: where SMOKE clearing in SHUTDOWN leads. -/
theorem State.leaveShutdown_reopens (s : State) :
    s.Reopens
      (if s.station.duplicate = true then .isolated
        else if s.cfg.roofSize = 1 then .solo
        else if 3 ≤ s.link.drops then .isolated
        else if s.station.silence = none then .isolated else .sharing)
      (if s.station.duplicate = true then .duplicate
        else if s.cfg.roofSize = 1 then .none
        else if 3 ≤ s.link.drops then .transmit
        else if s.station.silence = none then .silent else .none) s.leaveShutdown := by
  have limit : dropLimit = 3 := rfl
  simp only [State.leaveShutdown, limit, Option.isNone_iff_eq_none]
  split
  · exact s.enterIsolated_reopens .duplicate
  · split
    · exact s.enterWorking_reopens rfl
    · split
      · exact s.enterIsolated_reopens .transmit
      · split
        · exact s.enterIsolated_reopens .silent
        · exact s.enterWorking_reopens rfl

/-! ### The rows of R13 -/

section

variable {s : State}

theorem State.joinDecision_shutdown (smoke : s.accepted .smoke = .active) :
    s.joinDecision = s.enterShutdown := by
  rw [State.joinDecision, if_pos (by rw [State.active, smoke]; rfl)]

theorem State.joinDecision_solo (smoke : s.accepted .smoke ≠ .active) (size : s.cfg.roofSize = 1) :
    s.joinDecision = s.enterWorking .solo := by
  rw [State.joinDecision, if_neg (by simpa [State.active] using smoke), if_pos size]

theorem State.joinDecision_transmit (smoke : s.accepted .smoke ≠ .active)
    (size : s.cfg.roofSize ≠ 1) (drops : dropLimit ≤ s.link.drops) :
    s.joinDecision = s.enterIsolated .transmit := by
  rw [State.joinDecision, if_neg (by simpa [State.active] using smoke), if_neg size, if_pos drops]

/-- With the roof shared and the drops below the limit, the FRESH entries decide. -/
theorem State.joinDecision_heard (smoke : s.accepted .smoke ≠ .active)
    (size : s.cfg.roofSize ≠ 1) (drops : s.link.drops < dropLimit) :
    s.joinDecision =
      if s.anyFresh then s.enterWorking .sharing else s.enterIsolated .silent := by
  rw [State.joinDecision, if_neg (by simpa [State.active] using smoke), if_neg size,
    if_neg (Nat.not_le.2 drops)]

end

/-- R13: JOIN_EXPIRY, decided by a known row. -/
theorem State.joinExpiry_enters {s u : State} {new : StationState} {cause : IsolationCause}
    (hp : s.powered = true) (hs : s.station.state = .joining) (hj : s.station.join.isSome = true)
    (row : State.joinDecision { s with station.join := none } = u)
    (e : ({ s with station.join := none } : State).EntersAs new cause u) :
    exec .joinExpiry s = .next (u.settleInto s) ∧
      (u.settleInto s).station = { s.station with state := new, cause := cause, join := none } ∧
      s.stageFrame { u.settleInto s with station := s.station } :=
  ⟨by rw [State.joinExpiry_runs hp hs hj, row], (e.trans (State.settleInto_frame u s)).joined hs⟩

/-- Settles O8: the entry each row of R13 and R21 names. -/
theorem joinDecision : Obligations.JoinDecision := by
  refine ⟨fun s hp hs hj smoke => ?_, fun s hp hs hj smoke size => ?_,
    fun s hp hs hj smoke size drops => ?_, fun s n hp hs hj smoke size drops fresh => ?_,
    fun s hp hs hj smoke size drops stale => ?_, fun s pinHigh accepted hs => ?_⟩
  · exact ⟨_, State.joinExpiry_enters hp hs hj (State.joinDecision_shutdown smoke)
      (State.enterShutdown_enters _)⟩
  · exact ⟨_, State.joinExpiry_enters hp hs hj (State.joinDecision_solo smoke size)
      (State.enterWorking_enters _ .solo)⟩
  · exact ⟨_, State.joinExpiry_enters hp hs hj (State.joinDecision_transmit smoke size drops)
      (State.enterIsolated_enters _ .transmit)⟩
  · have fresh : State.anyFresh { s with station.join := none } = true :=
      (State.anyFresh_iff _).2 ⟨n, fresh⟩
    have row := State.joinDecision_heard (s := { s with station.join := none }) smoke size drops
    rw [if_pos fresh] at row
    exact ⟨_, State.joinExpiry_enters hp hs hj row (State.enterWorking_enters _ .sharing)⟩
  · have stale : ¬ State.anyFresh { s with station.join := none } = true := fun some =>
      ((State.anyFresh_iff _).1 some).elim fun n fresh => stale n fresh
    have row := State.joinDecision_heard (s := { s with station.join := none }) smoke size drops
    rw [if_neg stale] at row
    obtain ⟨runs, station, frame⟩ :=
      State.joinExpiry_enters hp hs hj row (State.enterIsolated_enters _ .silent)
    exact ⟨_, runs, station, State.settleInto_holds s (State.enterIsolated_raises _), frame⟩
  · have runs := State.accepts_runs accepted
    rw [State.raiseInput_none (.inl rfl), ← State.settleInto] at runs
    generalize (s.sampled .smoke pinHigh).1 = i at runs
    have delivered : (s.setInput .smoke i).deliverInput .smoke
        (if (false : Bool) = true then .activated else .deactivated) =
        (s.setInput .smoke i).leaveShutdown :=
      if_pos (c := (s.setInput .smoke i).station.state = .shutdown) hs
    rw [delivered] at runs
    refine ⟨_, runs, ?_⟩
    have r := (s.setInput .smoke i).leaveShutdown_reopens.settled s
    generalize State.settleInto _ _ = t at *
    refine ⟨r.enters.station, fun hi hc => r.silent ?_, fun hc => r.fault ?_, r.waiting,
      (State.entryFrame_inputs r.enters.frame).stageFrame (r.enters.sameButQueue (.inl ?_))⟩
    · exact (congrArg StationCtl.cause r.enters.station).symm.trans hc
    · exact fun silent => hc ((congrArg StationCtl.cause r.enters.station).trans silent)
    · show s.station.state ≠ .sharing
      simp [hs]

end Sys2Proof.Machine

/-! # Isolation by silence (R14 to R16, R88) -/

namespace Sys2Proof.Machine

/-! ## Properties carried through an entry -/

theorem State.Blind.admissionIdle {P : State → Prop} (b : State.Blind P) (s : State) (h : P s) :
    P s.admissionIdle :=
  State.admissionIdle_keeps b.keeps (fun t i h => b.stage h (t.unclaimSlot_eq i)) s
    (b.plant s s.adm.idled s.mode s.stage h)

/-- What the plant and the requests do not touch goes through the end of an entry. -/
theorem State.Blind.entryEnd {P : State → Prop} (b : State.Blind P) (s before : State) (h : P s) :
    P (s.admissionIdle.requestState.entered before) :=
  State.entryEnd_keeps b.keeps s before (b.admissionIdle s h)

theorem State.Blind.isolatedQuietly {P : State → Prop} (b : State.Blind P) (s : State)
    (cause : IsolationCause) (h : P (s.setStation .isolated cause)) :
    P (s.isolatedQuietly cause) := by
  unfold State.isolatedQuietly
  exact b.entryEnd _ s (State.stopToCap_keeps b.keeps _ h)

theorem State.Blind.enterShutdown {P : State → Prop} (b : State.Blind P) (s : State)
    (h : P (s.setStation .shutdown .none)) : P s.enterShutdown := by
  unfold State.enterShutdown
  exact b.entryEnd _ s (State.stopAll_keeps b.keeps _ h)

/-- R15, R32: the queue that entry into ISOLATED leaves, from the one the change of state left. -/
theorem State.enterIsolated_asked (s : State) (cause : IsolationCause) :
    (s.setStation .isolated cause).link.StateAsked (s.enterIsolated cause).link := by
  refine s.enterIsolated_of (P := fun t => (s.setStation .isolated cause).link.StateAsked t.link)
    cause (fun t h => by rw [t.raise_link]; exact h) ?_
  refine ((State.blind_stateAsked _).isolatedQuietly s cause ⟨?_, .refl _⟩).2
  rw [State.setStation_station]
  nofun

/-- The link after a change of station state: at most the queue and a frame given up on the wire. -/
theorem State.EntersAs.abandoning {s t : State} {new : StationState} {cause : IsolationCause}
    (e : s.EntersAs new cause t) :
    ({ s.link with abandoned := t.link.abandoned } : Link).sameButQueue t.link := by
  have kept : t.link.abandoned = (s.setStation new cause).link.abandoned := by rw [e.link]
  rw [kept]
  refine Link.sameButQueue_trans ?_ e.link
  by_cases leaving : s.station.state = .sharing ∧ new ≠ .sharing
  · rw [State.setStation_leaving cause leaving.1 leaving.2]
    exact s.link.dropShed_sameButQueue
  · rw [State.setStation]
    dsimp only
    rw [if_neg leaving]
    rfl

/-! ## No claim outside SHARING -/

/-- Outside SHARING, with no claim open and the settle timer stopped. -/
def State.Unclaimed (s : State) : Prop :=
  s.station.state ≠ .sharing ∧ s.adm.claim = none ∧ s.adm.settle = none

theorem State.Unclaimed.of_adm {s t : State} (h : s.Unclaimed) (station : t.station = s.station)
    (adm : t.adm = s.adm) : t.Unclaimed := by
  rw [State.Unclaimed, station, adm]
  exact h

theorem State.unclaimed_keeps : State.Keeps State.Unclaimed where
  mode _ _ h := h
  denials _ h := h
  fan s on h := h.of_adm (s.fanCommanded_frame on).station_eq (s.fanCommanded_adm on)
  request s h := h.of_adm (s.requestState_station false) (s.requestState_adm false)
  stop s i h := h.of_adm (s.stopSlot_frame i).station_eq (s.stopSlot_adm i)

/-- No start opens a claim outside SHARING. -/
theorem State.unclaimed_keepsStarts : State.KeepsStarts State.Unclaimed where
  toKeeps := State.unclaimed_keeps
  select _ h := h
  decide s t i h _ _ _ d := by
    obtain ⟨apart, claim, settle⟩ := h
    refine ⟨d.frame.station_eq ▸ apart, ?_⟩
    cases d with
    | claim level headroom sharing => exact absurd sharing apart
    | shed level headroom needed sharing => exact absurd sharing apart
    | denied level headroom => exact ⟨claim, settle⟩
    | granted level headroom mode =>
      rw [State.grant_adm]
      exact ⟨claim, settle⟩

/-- R7: the claim withdrawn and the settle timer stopped. -/
theorem State.admissionIdle_unclaimed {s : State} (h : s.station.state ≠ .sharing) :
    s.admissionIdle.Unclaimed :=
  State.admissionIdle_keeps State.unclaimed_keeps
    (fun t i h => h.of_adm (t.unclaimSlot_frame i).station_eq (t.unclaimSlot_adm i)) s
    ⟨h, rfl, rfl⟩

theorem State.enterIsolated_unclaimed (s : State) (cause : IsolationCause) :
    (s.enterIsolated cause).Unclaimed := by
  refine s.enterIsolated_of cause
    (fun t h => h.of_adm (t.raise_station _) (t.raise_adm _)) ?_
  unfold State.isolatedQuietly
  refine State.entryEnd_keeps State.unclaimed_keeps _ s (State.admissionIdle_unclaimed ?_)
  rw [(State.stopToCap_frame _).station_eq, State.setStation_station]
  nofun

/-! ## The laws of the plant to the end of an event -/

theorem State.plantLaws_keepsStarts : State.KeepsStarts State.PlantLaws where
  toKeeps := State.plantLaws_keeps
  select _ h := h.same h.adm rfl rfl rfl rfl rfl
  decide _ _ _ h sel idle working d :=
    h.decision (State.ready_of_selectable sel) idle working d

theorem State.PlantLaws.settleInto {s : State} (h : s.PlantLaws) (before : State) :
    (s.settleInto before).PlantLaws := by
  rw [State.settleInto]
  have kept := State.settleStarts_keeps State.plantLaws_keepsStarts s before h
  generalize s.settleStarts before = t at *
  exact kept.same (State.admLaw_of_adm (State.drivePins_adm _) kept.adm) rfl rfl rfl rfl rfl

/-- R15: entry into ISOLATED leaves the staged load within the fallback cap, also after the starts at the
end of the event. -/
theorem State.enterIsolated_fits {s : State} (cause : IsolationCause) (h : s.orderLaw = true)
    (before : State) :
    ((s.enterIsolated cause).settleInto before).stagedLoad ≤ s.cfg.cap := by
  have laws : (s.enterIsolated cause).PlantLaws :=
    s.enterIsolated_of cause
      (fun t k => k.same (State.raise_admLaw _ k.adm) (by simp) (by simp) (by simp) (by simp)
        (by simp)) (State.isolatedQuietly_plantLaws cause h)
  have settled := laws.settleInto before
  have e := (s.enterIsolated_enters cause).trans (State.settleInto_frame _ before)
  generalize State.settleInto _ _ = t at *
  have config : t.config = s.config := by rw [e.frame]
  rw [← State.cfg_congr config]
  exact ((State.loadLaw_iff t).1 settled.load).1 (by rw [e.station])

/-- Settles O9: the entry into ISOLATED in SHARING, and the timer alone elsewhere. -/
theorem silenceIsolates : Obligations.SilenceIsolates := by
  have runs {s : State} (hp : s.powered = true) (hs : s.station.silence.isSome = true) :
      exec .silenceExpiry s = .next
        ((if s.station.state = .sharing then
            State.enterIsolated { s with station.silence := none } .silent
          else { s with station.silence := none }).settleInto s) := by
    change execSilenceExpiry s = _
    rw [execSilenceExpiry, State.event_runs s _ _ hp hs]
  refine ⟨fun s hp hs sharing => ?_, fun s hp hs apart => ?_⟩
  · refine ⟨_, runs hp hs, ?_⟩
    rw [if_pos sharing]
    have e := (State.enterIsolated_enters { s with station.silence := none } .silent).trans
      (State.settleInto_frame _ s)
    have unclaimedBefore := State.enterIsolated_unclaimed { s with station.silence := none } .silent
    have waiting := State.enterIsolated_waiting { s with station.silence := none } .silent
    have asked := State.enterIsolated_asked { s with station.silence := none } .silent
    have held := State.settleInto_holds s
      (State.enterIsolated_raises { s with station.silence := none })
    have fits (h : s.orderLaw = true) :=
      State.enterIsolated_fits (s := { s with station.silence := none }) .silent h s
    generalize State.enterIsolated _ _ = u at *
    have unclaimed : (u.settleInto s).Unclaimed := by
      rw [State.settleInto]
      exact (State.settleStarts_keeps State.unclaimed_keepsStarts u s unclaimedBefore).of_adm
        (State.drivePins_station _) (State.drivePins_adm _)
    have waiting := (State.settleInto_asked u s).state waiting
    have apart : u.station.state ≠ .sharing := unclaimedBefore.1
    have asked := asked.trans (State.settleInto_stateAsked s apart)
    generalize u.settleInto s = t at *
    have dropped : (({ s with station.silence := none } : State).setStation .isolated .silent).link =
        s.link.dropShed := State.setStation_leaving .silent sharing (by nofun)
    have moved : s.entryFrame { s with station.silence := none } := rfl
    refine ⟨e.station, unclaimed.2.1, unclaimed.2.2, waiting, ?_, held, fits, e.abandoning,
      State.entryFrame_trans moved e.frame⟩
    rw [asked.held, dropped, Link.dropShed_held]
  · refine ⟨_, runs hp hs, ?_⟩
    rw [if_neg apart]
    refine ⟨State.settleInto_station _ s, State.settleInto_fault _ s, fun held => ?_, ?_⟩
    · have offer : State.offer { s with station.silence := none } = s.offer := by
        rw [State.offer_elsewhere apart]
        exact State.offer_elsewhere (s := { s with station.silence := none }) apart
      rw [State.settleInto_held (s := { s with station.silence := none }) held offer]
      exact ⟨rfl, rfl, rfl, rfl⟩
    · have moved : s.entryFrame { s with station.silence := none } := rfl
      have settled := State.settleInto_frame { s with station.silence := none } s
      exact (State.entryFrame_trans moved settled.entryFrame).stageFrame settled.2

end Sys2Proof.Machine

/-! # Every stage stopped: entry into SHUTDOWN and LEFT (R7, R21, R22, R149, R150) -/

namespace Sys2Proof.Machine

/-! ## Stopped stages -/

/-- R149: a running stage among those stopped comes to rest in OFF_LOCK, off the running order list. -/
theorem State.moveEach_stop_rests {i : Slot} (l : List Slot) (s : State) (hi : i ∈ l)
    (running : s.isRunning i = true) :
    (s.moveEach State.stopSlot l).Rests i (s.stoppedStage i) := by
  have keeps := State.rests_keeps (i := i) (r := s.stoppedStage i) rfl
  induction l generalizing s with
  | nil => cases hi
  | cons j rest ih =>
    rw [State.moveEach_cons]
    by_cases hj : i = j
    · subst hj
      have stopped : (s.stopSlot i).Rests i (s.stoppedStage i) := by
        refine ⟨?_, ?_⟩
        · rw [State.stopSlot_slot, if_pos ⟨rfl, running⟩]
          rfl
        · rw [State.stopSlot_order, if_pos running]
          simp
      exact State.moveEach_keeps keeps _ (fun t k h => keeps.stop t k h) rest _
        (State.reportMove_keeps keeps _ _ stopped)
    · have slots := ((s.stopSlot j).reportMove_stage s).1
      have slot : ((s.stopSlot j).reportMove s).slot i = s.slot i := by
        rw [State.slot_congr slots, State.stopSlot_slot, if_neg fun h => hj h.1]
      have config : ((s.stopSlot j).reportMove s).slotConfig i = s.slotConfig i := by
        rw [State.slotConfig, State.cfg_congr (State.reportMove_config _ _), s.stopSlot_eq j]
        rfl
      have stage : ((s.stopSlot j).reportMove s).stoppedStage i = s.stoppedStage i := by
        rw [State.stoppedStage, slot, config, State.stoppedStage]
      rw [← stage]
      refine ih _ ((List.mem_cons.1 hi).resolve_left hj) ?_ (State.rests_keeps rfl)
      rw [State.isRunning_of_slot slot]
      exact running

theorem State.stopAll_rests {s : State} {i : Slot} (running : s.isRunning i = true) :
    s.stopAll.Rests i (s.stoppedStage i) :=
  State.moveEach_stop_rests allSlots s (mem_allSlots i) running

/-- No stage runs and none is claimed. -/
def State.Quiet (s : State) : Prop := ∀ i, s.isRunning i = false ∧ s.stageState i ≠ .claimed

theorem State.Quiet.congr {s t : State} (h : s.Quiet) (slots : t.stage.slots = s.stage.slots) :
    t.Quiet := fun i => by
  rw [State.isRunning_congr slots, State.stageState_congr slots]
  exact h i

theorem State.quiet_keeps : State.Keeps State.Quiet where
  mode _ _ h := h
  denials _ h := h
  fan s on h := h.congr (s.fanCommanded_stage on).1
  request s h := h.congr (by simp)
  stop s i h := by
    rw [State.stopSlot, if_neg (by simp [(h i).1])]
    exact h

/-- R7: a slot unclaimed is not claimed, and no other becomes so. -/
theorem State.unclaimSlot_unclaimed (s : State) (i j : Slot)
    (h : i = j ∨ s.stageState j ≠ .claimed) : (s.unclaimSlot i).stageState j ≠ .claimed := by
  unfold State.unclaimSlot
  split
  · rw [State.stageState, State.slot_setSlot]
    split
    · nofun
    · rename_i hij
      exact h.resolve_left fun e => hij e.symm
  · rename_i hi
    rcases h with rfl | hj
    · exact hi
    · exact hj

theorem State.unclaimed_slot_keeps (j : Slot) :
    State.Keeps (fun s => s.stageState j ≠ .claimed) where
  mode _ _ h := h
  denials _ h := h
  fan s on h := by rw [State.stageState_congr (s.fanCommanded_stage on).1]; exact h
  request s h := by rw [State.stageState_congr (s := s) (by simp)]; exact h
  stop s i h := by
    rw [State.stageState, State.stopSlot_slot]
    split
    · nofun
    · exact h

theorem State.moveEach_unclaim {j : Slot} (l : List Slot) (s : State) (hj : j ∈ l) :
    (s.moveEach State.unclaimSlot l).stageState j ≠ .claimed := by
  have keeps := State.unclaimed_slot_keeps j
  induction l generalizing s with
  | nil => cases hj
  | cons i rest ih =>
    rw [State.moveEach_cons]
    by_cases hi : i = j
    · exact State.moveEach_keeps keeps _
        (fun t k h => t.unclaimSlot_unclaimed k j (.inr h)) rest _
        (State.reportMove_keeps keeps _ _ (s.unclaimSlot_unclaimed i j (.inl hi)))
    · exact ih _ ((List.mem_cons.1 hj).resolve_left fun e => hi e.symm)

theorem State.admissionIdle_isRunning {s : State} {i : Slot} (h : s.isRunning i = false) :
    s.admissionIdle.isRunning i = false := by
  cases hr : s.admissionIdle.isRunning i with
  | false => rfl
  | true => exact absurd (s.admissionIdle_below.runs i hr) (by simp [h])

/-- With every stage stopped, R7 leaves none running and none claimed. -/
theorem State.stopAll_quiet (s : State) : s.stopAll.admissionIdle.Quiet := fun i =>
  ⟨State.admissionIdle_isRunning (s.stopAll_isRunning i),
    State.moveEach_unclaim allSlots _ (mem_allSlots i)⟩

theorem State.Rests.admissionIdle {s : State} {i : Slot} {r : Stage} (h : s.Rests i r)
    (hr : r.state.running = false) (hc : r.state ≠ .claimed) : s.admissionIdle.Rests i r :=
  State.admissionIdle_keeps (State.rests_keeps hr) (fun _ j k => k.unclaimSlot hc j) s h

theorem State.stopAll_idle_rests {s : State} {i : Slot} (running : s.isRunning i = true) :
    s.stopAll.admissionIdle.Rests i (s.stoppedStage i) :=
  (State.stopAll_rests running).admissionIdle rfl (by simp [State.stoppedStage])

/-- R7: the Admission Unit, but for its denials. -/
theorem State.admissionIdle_sameButDenials (s : State) :
    s.adm.idled.SameButDenials s.admissionIdle.adm :=
  State.admissionIdle_keeps (P := fun t => s.adm.idled.SameButDenials t.adm)
    (State.sameButDenials_keeps s.adm.idled) (fun t i h => by rw [t.unclaimSlot_adm]; exact h) s (.refl _)

/-! ## The end of an entry into a state without starts -/

/-- A station that leaves work: what the end of its event makes of the plant. -/
structure State.Rested (s t : State) : Prop where
  quiet : t.Quiet
  stopped : ∀ i, s.isRunning i = true → s.stopTaken t i
  adm : s.adm.idled.SameButDenials t.adm
  mode : ∃ m : ModeLogic, t.mode = m.shut

/-- The evaluation that ends such an entry, and the end of its event. -/
theorem State.rested {s u : State} (before after : State) (quiet : u.Quiet)
    (stopped : ∀ i, s.isRunning i = true → u.Rests i (s.stoppedStage i))
    (adm : s.adm.idled.SameButDenials u.adm) (working : u.station.state.working = false)
    (config : u.station.state ≠ .config) :
    s.Rested ((u.entered before).settleInto after) := by
  have idle (i : Slot) := State.not_runFree (quiet i).1
  have station : (u.entered before).station = u.station := (u.entered_frame before).station_eq
  have entered : (u.entered before).Quiet := State.entered_keeps State.quiet_keeps u before quiet
  have rests (i : Slot) (running : s.isRunning i = true) :=
    State.entered_keeps (State.rests_keeps (i := i) (r := s.stoppedStage i) rfl) u before
      (stopped i running)
  have kept := State.entered_keeps (State.sameButDenials_keeps s.adm.idled) u before adm
  have mode : (u.entered before).mode = u.formed.shut := by
    rw [State.entered_idle before idle, State.evaluateOnce_mode, State.formMode_off working config]
  generalize u.entered before = v at *
  obtain ⟨sameAdm, sameMode, sameStage⟩ := State.settleInto_plant after
    ((State.startsHeld_iff v).2 (.inr (station ▸ working)))
  exact
    { quiet := entered.congr (by rw [sameStage])
      stopped := fun i running => State.stopTaken_settleInto after (rests i running)
      adm := sameAdm ▸ kept
      mode := ⟨_, sameMode.trans mode⟩ }

namespace State.Rested

variable {s t : State}

theorem shut (r : s.Rested t) :
    t.mode.fan = false ∧ t.mode.damper = 0 ∧ t.mode.mode = .off := by
  obtain ⟨m, hm⟩ := r.mode
  rw [hm]
  exact ⟨rfl, rfl, rfl⟩

end State.Rested

/-! ## The link at entry to LEFT -/

theorem Link.dropState_sameButQueue (l : Link) :
    ({ l with abandoned := l.dropState.abandoned } : Link).sameButQueue l.dropState := by
  unfold Link.dropState
  dsimp only
  split
  · rfl
  · rfl
  · split <;> rfl

theorem Link.sameButQueue.abandoning {l k : Link}
    (h : ({ l with abandoned := k.abandoned } : Link).sameButQueue k) (m : Link)
    (hm : ({ k with abandoned := m.abandoned } : Link).sameButQueue m) :
    ({ l with abandoned := m.abandoned } : Link).sameButQueue m := by
  unfold Link.sameButQueue at *
  rw [hm, h]

/-- R22, R32, R39: the queue at entry to LEFT. -/
structure Link.LeavesBy (l k : Link) : Prop where
  report : k.report = none
  leave : k.leaveSlot.waiting = true
  held : k.heldShed = none
  offWire : l.onWire = none → k.leaveSlot = .current ∧ k.stateSlot = .empty ∧ k.shedSlot = .empty
  kept : ({ l with report := none, abandoned := k.abandoned } : Link).sameButQueue k

theorem Link.dropShed_empties {l : Link} (h : l.onWire = none) : l.dropShed.shedSlot = .empty := by
  unfold Link.dropShed
  dsimp only
  split
  · assumption
  · rfl
  · rw [if_neg (by simp [h])]

theorem Link.dropState_empties {l : Link} (h : l.onWire = none) :
    l.dropState.stateSlot = .empty := by
  unfold Link.dropState
  dsimp only
  split
  · assumption
  · rfl
  · rw [if_neg (by simp [h])]

theorem Link.dropState_shed (l : Link) :
    l.dropState.shedSlot = l.shedSlot ∧ l.dropState.heldShed = l.heldShed := by
  unfold Link.dropState
  dsimp only
  split
  · exact ⟨rfl, rfl⟩
  · exact ⟨rfl, rfl⟩
  · split <;> exact ⟨rfl, rfl⟩

theorem Link.count_eq (n : Nat) (l : Link) : l.count n = { l with backoff := (l.count n).backoff } := by
  unfold Link.count
  split
  · split <;> rfl
  · rfl

/-- The LEAVE frame asked for, from what the dropped SHED and STATE leave. -/
theorem Link.leave_leaves (l : Link) (n : Nat) : l.LeavesBy (l.leave.select.count n) := by
  have counted := Link.count_asked n l.leave.select
  have asked := l.leave.select_asked.trans counted
  have dropped : ({ l with abandoned := l.dropShed.dropState.abandoned } : Link).sameButQueue
      l.dropShed.dropState :=
    l.dropShed_sameButQueue.abandoning _ l.dropShed.dropState_sameButQueue
  have queue : l.leave.sameButQueue (l.leave.select.count n) :=
    Link.sameButQueue_trans (Link.select_frame _) (Link.count_frame _ _)
  have held : l.leave.heldShed = none :=
    l.dropShed.dropState_shed.2.trans l.dropShed_held
  have kept : ({ l with report := none, abandoned := l.leave.abandoned } : Link).sameButQueue
      l.leave := by
    unfold Link.leave Link.sameButQueue at *
    rw [dropped]
  refine ⟨?_, asked.leave, ?_, fun wire => ?_, ?_⟩
  · rw [queue]
    rfl
  · rw [asked.held, held]
  · have wire' : l.dropShed.onWire = none := by rw [l.dropShed_sameButQueue, wire]
    have shed : l.leave.shedSlot = .empty :=
      l.dropShed.dropState_shed.1.trans (Link.dropShed_empties wire)
    have state : l.leave.stateSlot = .empty := Link.dropState_empties wire'
    have current : l.leave.select = { l.leave with leaveSlot := .current, attempts := 1 } := by
      have leave : l.leave.leaveSlot = .queued := rfl
      simp [Link.select, Link.busy, leave, shed, state]
    rw [Link.count_eq, current]
    exact ⟨rfl, state, shed⟩
  · have abandoned : (l.leave.select.count n).abandoned = l.leave.abandoned := by rw [queue]
    rw [abandoned]
    exact Link.sameButQueue_trans kept queue

theorem State.askLeave_link (s : State) :
    s.askLeave.link = s.link.leave.select.count s.number := rfl

/-- The SHED slot emptied before, on leaving SHARING, comes to the same. -/
theorem Link.LeavesBy.of_dropShed {l k : Link} (h : l.dropShed.LeavesBy k) : l.LeavesBy k where
  report := h.report
  leave := h.leave
  held := h.held
  offWire wire := h.offWire (by rw [l.dropShed_sameButQueue, wire])
  kept := by
    have dropped := l.dropShed_sameButQueue
    have kept := h.kept
    unfold Link.sameButQueue at *
    rw [kept, dropped]

/-- In LEFT nothing is asked for, so the queue stays as the LEAVE frame left it. -/
theorem State.leftQuietly_link (s : State) :
    ∃ n, s.leftQuietly.link = (s.setStation .left .none).link.leave.select.count n := by
  have stopped : (s.setStation .left .none).stopAll.admissionIdle.link =
      (s.setStation .left .none).link := by
    have b := State.blind_unasked (s.setStation .left .none).link
    exact (b.admissionIdle _ (State.stopAll_keeps b.keeps _
      ⟨by rw [State.setStation_station]; rfl, rfl⟩)).2
  have link := State.askLeave_link (s.setStation .left .none).stopAll.admissionIdle
  rw [stopped] at link
  rw [State.leftQuietly]
  exact ⟨_, link⟩

theorem State.enterLeft_leaves (s before : State) :
    s.link.LeavesBy (s.enterLeft.settleInto before).link := by
  have off : s.leftQuietly.station.state.reports = false := by
    rw [s.leftQuietly_station]
    rfl
  obtain ⟨n, link⟩ := s.leftQuietly_link
  have left : s.enterLeft.station.state.reports = false := by
    rw [s.enterLeft_station]
    rfl
  rw [State.settleInto_unasked before left, State.enterLeft_eq, State.entered_unasked s off, link]
  by_cases sharing : s.station.state = .sharing
  · rw [State.setStation_leaving .none sharing (by nofun)]
    exact (Link.leave_leaves _ n).of_dropShed
  · rw [State.setStation_apart .left .none sharing]
    exact Link.leave_leaves _ n

theorem State.askLeave_entryFrame (s : State) : s.entryFrame s.askLeave := rfl
theorem State.askLeave_fault (s : State) : s.askLeave.fault = s.fault := rfl

theorem State.leftQuietly_entryFrame (s : State) : s.entryFrame s.leftQuietly := by
  have e : (s.setStation .left .none).entryFrame (s.setStation .left .none).stopAll.admissionIdle :=
    (State.stageFrame_trans (State.stopAll_frame _) (State.admissionIdle_stageFrame _)).entryFrame
  rw [State.leftQuietly]
  exact State.entryFrame_trans (State.entryFrame_trans (s.setStation_entryFrame .left .none) e)
    (State.askLeave_entryFrame _)

theorem State.enterLeft_entryFrame (s : State) : s.entryFrame s.enterLeft := by
  rw [State.enterLeft_eq]
  exact State.entryFrame_trans s.leftQuietly_entryFrame (State.entered_frame _ s).entryFrame

theorem State.enterLeft_fault (s : State) : s.enterLeft.fault = s.fault := by
  rw [State.enterLeft_eq, State.entered_fault, State.leftQuietly, State.askLeave_fault,
    State.blind_admissionIdle_fault, State.stopAll_fault, State.setStation_fault]

theorem Admission.SameButDenials.trans {a b c : Admission} (h : a.SameButDenials b)
    (k : b.SameButDenials c) : a.SameButDenials c := by
  refine ⟨?_, k.2.elim (fun same => same ▸ h.2) .inr⟩
  rw [k.1, h.1]

theorem Admission.SameButDenials.idled {a b : Admission} (h : a.SameButDenials b) :
    a.idled.SameButDenials b.idled := by
  refine ⟨?_, h.2⟩
  rw [h.1]
  rfl

/-- Every stage stopped after the station was set, in the words of the state before. -/
theorem State.setStation_stopped (s : State) (new : StationState) (cause : IsolationCause) :
    (s.setStation new cause).stopAll.admissionIdle.Quiet ∧
      (∀ i, s.isRunning i = true →
        (s.setStation new cause).stopAll.admissionIdle.Rests i (s.stoppedStage i)) ∧
      s.adm.idled.SameButDenials (s.setStation new cause).stopAll.admissionIdle.adm := by
  have set := s.setStation_eq new cause
  generalize s.setStation new cause = u at *
  have runs (i : Slot) : u.isRunning i = s.isRunning i := by
    rw [set]
    rfl
  have stage (i : Slot) : u.stoppedStage i = s.stoppedStage i := by
    rw [set]
    rfl
  have adm : u.adm = s.adm := by rw [set]
  refine ⟨u.stopAll_quiet, fun i running => ?_, ?_⟩
  · rw [← stage]
    exact State.stopAll_idle_rests ((runs i).trans running)
  · have stops : u.adm.SameButDenials u.stopAll.adm :=
      State.stopAll_keeps (State.sameButDenials_keeps u.adm) u (.refl u.adm)
    rw [← adm]
    exact stops.idled.trans u.stopAll.admissionIdle_sameButDenials

/-- The stages, the Admission Unit and the mode after entry to LEFT, at the end of its event. -/
theorem State.enterLeft_rested (s before : State) : s.Rested (s.enterLeft.settleInto before) := by
  obtain ⟨quiet, rests, adm⟩ := s.setStation_stopped .left .none
  have station := s.leftQuietly_station
  rw [State.enterLeft_eq]
  refine State.rested s before ?_ ?_ ?_ ?_ ?_
  · rw [State.leftQuietly]
    exact quiet.congr (by rw [State.askLeave_stage])
  · intro i running
    rw [State.leftQuietly]
    exact (rests i running).of_stage (by rw [State.askLeave_stage]) (by rw [State.askLeave_stage])
  · rw [State.leftQuietly, State.askLeave_adm]
    exact adm
  · rw [station]
    rfl
  · rw [station]
    nofun

theorem State.enterLeft_settled (s before : State) :
    (s.enterLeft.settleInto before).station = { s.station with state := .left, cause := .none } ∧
      s.entryFrame (s.enterLeft.settleInto before) ∧
      (s.enterLeft.settleInto before).fault = s.fault := by
  refine ⟨?_, ?_, ?_⟩
  · rw [State.settleInto_station, State.enterLeft_station]
  · exact State.entryFrame_trans s.enterLeft_entryFrame (State.settleInto_frame _ before).entryFrame
  · rw [State.settleInto_fault, State.enterLeft_fault]

/-- R203: LEAVE where it is taken. -/
theorem State.leave_runs {s : State} (hp : s.powered = true) (hb : s.svc.buffer = .empty)
    (hs : s.station.state = .sharing ∨ s.station.state = .isolated ∨ s.station.state = .solo ∨
      s.station.state = .shutdown) :
    exec .leave s = .next (State.answer
      ((State.enterLeft { s with svc.rx := .hunt }).settleInto { s with svc.rx := .hunt }) 0x31
      .ok) := by
  change execLeave s = _
  rw [execLeave, State.request_runs s _ hp hb]
  rcases hs with hs | hs | hs | hs <;> simp only [hs]

/-- Settles O16: every stage stopped, the LEAVE frame asked for, and the evaluation of a state that
wants nothing. -/
theorem leaveTakesTheStationOff : Obligations.LeaveTakesTheStationOff := by
  refine ⟨fun s hp hb hs => ⟨_, State.leave_runs hp hb hs, ?_⟩, fun s hp hb hs => ?_⟩
  · have r := State.enterLeft_rested { s with svc.rx := .hunt } { s with svc.rx := .hunt }
    have l := State.enterLeft_leaves { s with svc.rx := .hunt } { s with svc.rx := .hunt }
    obtain ⟨station, frame, fault⟩ :=
      State.enterLeft_settled { s with svc.rx := .hunt } { s with svc.rx := .hunt }
    generalize State.settleInto _ _ = t at *
    obtain ⟨fan, damper, mode⟩ := r.shut
    have svc : t.svc = { s.svc with rx := .hunt } := by rw [frame]
    refine ⟨station, r.stopped, r.quiet, r.adm.1, r.adm.2, fan, damper, mode, l.report, l.leave,
      l.held, l.offWire, l.kept, fault, by rw [State.answer, svc], ?_⟩
    unfold State.entryFrame at frame
    rw [State.answer, frame, fault]
  · change execLeave s = _
    rw [execLeave, State.request_runs s _ hp hb]
    rcases hs with hs | hs | hs <;> simp only [hs] <;> rfl

end Sys2Proof.Machine

/-! # STATE and LEAVE frames of other stations (R14, R19, R44, R51 to R57, R61, R62) -/

namespace Sys2Proof.Machine

/-! ## The frame and its entry -/

/-- R27, R44: a valid frame names a station from 1 to 48. -/
theorem parseFrame_station {b : List Byte} {f : Frame} (h : parseFrame b = some f) :
    1 ≤ f.station ∧ f.station ≤ 48 := by
  unfold parseFrame at h
  split at h
  · rename_i valid
    cases h
    simp only [validFrame, Bool.and_eq_true, decide_eq_true_eq] at valid
    exact valid.1.2
  · cases h

theorem State.entry_congr {s t : State} (h : t.table.entries = s.table.entries) (n : Nat) :
    t.entry n = s.entry n := by
  rw [State.entry, State.entry]
  simp only [h]

/-! ## The effective ceiling (R61, R62) -/

/-- R61: what one entry does to the least ceiling so far. -/
def Entry.lower (least : Nat) (e : Entry) : Nat :=
  match e.state.heard, e.report with
  | true, some r => min least r.ceiling
  | _, _ => least

theorem State.leastCeiling_eq (s : State) :
    s.leastCeiling = s.table.entries.toList.foldl Entry.lower s.cfg.ceiling := rfl

theorem Entry.lower_eq (least : Nat) (e : Entry) :
    (e.lower least = least ∧ (e.state.heard = true → e.report = none)) ∨
      ∃ r, e.state.heard = true ∧ e.report = some r ∧ e.lower least = min least r.ceiling := by
  unfold Entry.lower
  cases heard : e.state.heard with
  | false => exact .inl ⟨rfl, nofun⟩
  | true =>
    cases report : e.report with
    | none => exact .inl ⟨rfl, fun _ => rfl⟩
    | some r => exact .inr ⟨r, rfl, rfl, rfl⟩

theorem Entry.foldl_lower (l : List Entry) (own : Nat) :
    l.foldl Entry.lower own ≤ own ∧
      (∀ e ∈ l, e.state.heard = true → ∀ r ∈ e.report, l.foldl Entry.lower own ≤ r.ceiling) ∧
      (l.foldl Entry.lower own = own ∨ ∃ e ∈ l, e.state.heard = true ∧
        e.report.map Report.ceiling = some (l.foldl Entry.lower own)) := by
  induction l generalizing own with
  | nil => simp
  | cons e rest ih =>
    obtain ⟨below, least, attained⟩ := ih (Entry.lower own e)
    rw [List.foldl_cons]
    rcases Entry.lower_eq own e with ⟨same, none⟩ | ⟨r, heard, report, lowered⟩
    · rw [same] at below least attained ⊢
      refine ⟨below, fun d hd hh q hq => ?_, ?_⟩
      · rcases List.mem_cons.1 hd with rfl | hd
        · rw [none hh] at hq
          cases hq
        · exact least d hd hh q hq
      · rcases attained with h | ⟨d, hd, h⟩
        · exact .inl h
        · exact .inr ⟨d, List.mem_cons_of_mem _ hd, h⟩
    · refine ⟨by omega, fun d hd hh q hq => ?_, ?_⟩
      · rcases List.mem_cons.1 hd with rfl | hd
        · rw [report] at hq
          cases hq
          omega
        · exact least d hd hh q hq
      · rcases attained with h | ⟨d, hd, h⟩
        · rw [h, lowered]
          rcases Nat.le_total own r.ceiling with le | le
          · exact .inl (Nat.min_eq_left le)
          · exact .inr ⟨e, List.mem_cons_self, heard, by rw [report, Nat.min_eq_right le]; rfl⟩
        · exact .inr ⟨d, List.mem_cons_of_mem _ hd, h⟩

/-- R61: the effective ceiling is the least of the own configured one and those heard. -/
def State.CeilingLeast (t : State) : Prop :=
  t.table.ceiling ≤ t.cfg.ceiling ∧
    (∀ m : Nat, (t.entry m).state.heard = true →
      ∀ r ∈ (t.entry m).report, t.table.ceiling ≤ r.ceiling) ∧
    (t.table.ceiling = t.cfg.ceiling ∨
      ∃ m : Nat, (t.entry m).state.heard = true ∧
        (t.entry m).report.map Report.ceiling = some t.table.ceiling)

theorem State.ceilingLeast_of {t : State} (h : t.table.ceiling = t.leastCeiling) :
    t.CeilingLeast := by
  obtain ⟨below, least, attained⟩ := Entry.foldl_lower t.table.entries.toList t.cfg.ceiling
  rw [← t.leastCeiling_eq, ← h] at below least attained
  refine ⟨below, fun m heard r hr => ?_, attained.imp id ?_⟩
  · by_cases hm : 1 ≤ m ∧ m ≤ 48
    · exact least _ ((t.mem_entries _).2 ⟨m, hm, rfl⟩) heard r hr
    · rw [t.entry_outside hm] at hr
      cases hr
  · rintro ⟨e, he, told⟩
    obtain ⟨m, _, rfl⟩ := (t.mem_entries e).1 he
    exact ⟨m, told⟩

theorem State.CeilingLeast.congr {s t : State} (h : s.CeilingLeast) (table : t.table = s.table)
    (config : t.config = s.config) : t.CeilingLeast := by
  have entry (m : Nat) : t.entry m = s.entry m := State.entry_congr (by rw [table]) m
  simp only [State.CeilingLeast, entry, table, State.cfg_congr config]
  exact h

/-- R61, R62: what a recomputation writes. -/
theorem State.recomputeCeiling_eq (s : State) :
    s.recomputeCeiling =
      { s with table.ceiling := s.leastCeiling, fault := s.recomputeCeiling.fault } := by
  unfold State.recomputeCeiling
  dsimp only
  split
  · rw [State.raise_eq]
  · rfl

theorem State.recomputeCeiling_table (s : State) :
    s.recomputeCeiling.table = { s.table with ceiling := s.leastCeiling } := by
  rw [State.recomputeCeiling_eq]

theorem State.recomputeCeiling_least (s : State) : s.recomputeCeiling.CeilingLeast := by
  refine State.ceilingLeast_of ?_
  rw [s.recomputeCeiling_eq]
  rfl

/-- R62: CEILING_MISMATCH is raised exactly by a fall below the own ceiling. -/
theorem State.recomputeCeiling_raises {s : State}
    (h : s.leastCeiling < s.table.ceiling ∧ s.leastCeiling < s.cfg.ceiling) :
    Category.ceilingMismatch.within s.recomputeCeiling.fault.heldSet = true := by
  rw [State.recomputeCeiling]
  dsimp only
  rw [if_pos h]
  exact State.raise_holds _ _

theorem State.recomputeCeiling_quiet {s : State} (h : s.table.ceiling ≤ s.leastCeiling) :
    s.recomputeCeiling.fault = s.fault := by
  rw [State.recomputeCeiling]
  dsimp only
  rw [if_neg fun lowered => Nat.not_lt.2 h lowered.1]

theorem State.entryChanged_fault (s : State) (marked : Bool) :
    (s.entryChanged marked).fault = s.fault := by
  unfold State.entryChanged
  split
  · exact s.evaluate_fault _
  · rfl

/-! ## A frame heard (R14, R19) -/

/-- R19: a frame of another station brings this one back to SHARING. -/
def State.Returns (s : State) : Prop :=
  s.station.state = .isolated ∧ (s.station.cause = .silent ∨ s.station.cause = .transmit) ∧
    s.link.drops = 0

/-- What a frame heard does at station control. -/
structure State.Hears (s t : State) : Prop where
  returned : s.Returns → t.station =
    { s.station with state := .sharing, cause := .none, silence := some silenceTime }
  stayed : ¬ s.Returns → t = { s with station.silence := some silenceTime }
  frame : s.entryFrame t
  link : s.link.sameButQueue t.link
  fault : t.fault = s.fault

theorem State.hearOther_returns {s : State} (h : s.Returns) :
    s.hearOther = State.enterWorking { s with station.silence := some silenceTime } .sharing := by
  obtain ⟨isolated, cause, drops⟩ := h
  rw [State.hearOther, State.returnToSharing, if_pos ⟨isolated, cause, by simp [drops]⟩]

theorem State.hearOther_stays {s : State} (h : ¬ s.Returns) :
    s.hearOther = { s with station.silence := some silenceTime } := by
  rw [State.hearOther, State.returnToSharing, if_neg]
  rintro ⟨isolated, cause, drops⟩
  exact h ⟨isolated, cause, by simpa using drops⟩

theorem State.hearOther_hears (s : State) : s.Hears s.hearOther := by
  by_cases h : s.Returns
  · rw [State.hearOther_returns h]
    have e := State.enterWorking_enters { s with station.silence := some silenceTime } .sharing
    have fault := State.enterWorking_fault { s with station.silence := some silenceTime } .sharing
    have apart : s.station.state ≠ .sharing := by
      rw [h.1]
      nofun
    have moved : s.entryFrame { s with station.silence := some silenceTime } := rfl
    exact ⟨fun _ => e.station, fun stays => absurd h stays, State.entryFrame_trans moved e.frame,
      e.sameButQueue (.inl apart), fault⟩
  · rw [State.hearOther_stays h]
    exact ⟨fun returns => absurd returns h, fun _ => rfl, rfl, rfl, rfl⟩

/-! ## The entry taken -/

/-- What a frame heard and an entry written leave at the end of the event. -/
structure State.Takes (s : State) (n : Nat) (e : Entry) (t : State) : Prop where
  hears : ∃ h, s.Hears h ∧ t.station = h.station
  entry : ∀ m : Nat, t.entry m = if m = n then e else s.entry m
  ceiling : t.CeilingLeast
  lowered : t.table.ceiling < s.table.ceiling → t.table.ceiling < s.cfg.ceiling →
    Category.ceilingMismatch.within t.fault.heldSet = true
  kept : s.table.ceiling ≤ t.table.ceiling → t.fault = s.fault
  link : s.link.sameButQueue t.link
  frame : t = { s with
    station := t.station, table := t.table, link := t.link, adm := t.adm, mode := t.mode
    stage := t.stage, fault := t.fault, pins := t.pins }

/-- An entry written and the ceiling recomputed, before the plant's reaction. -/
theorem State.Hears.takes {s h : State} (k : s.Hears h) {n : Nat} (hn : 1 ≤ n ∧ n ≤ 48) (e : Entry) :
    s.Takes n e (h.setEntry n e).recomputeCeiling := by
  have table : h.table = s.table := by rw [k.frame]
  have config : h.config = s.config := by rw [k.frame]
  have frame := k.frame
  have link := k.link
  have fault := k.fault
  have hears : ∃ v, s.Hears v ∧ h.station = v.station := ⟨h, k, rfl⟩
  have entry (m : Nat) : (h.setEntry n e).entry m = if m = n then e else s.entry m := by
    rw [State.entry_setEntry h n m e hn, State.entry_congr (s := s) (t := h) (by rw [table])]
  have written : h.setEntry n e = { h with table := (h.setEntry n e).table } := by
    rw [State.setEntry, dif_pos hn]
  have own : (h.setEntry n e).table.ceiling = s.table.ceiling := by
    rw [State.setEntry, dif_pos hn, ← table]
  have cfg : (h.setEntry n e).cfg = s.cfg := State.cfg_congr (by rw [written, config])
  generalize h.setEntry n e = u at *
  have ceiling : u.recomputeCeiling.table.ceiling = u.leastCeiling := by
    rw [u.recomputeCeiling_table]
  have re := u.recomputeCeiling_eq
  refine ⟨?_, fun m => ?_, u.recomputeCeiling_least, ?_, ?_, ?_, ?_⟩
  · rw [re, written]
    exact hears
  · rw [State.entry_congr (t := u.recomputeCeiling) (s := u) (by rw [re]), entry]
  · rw [ceiling, ← own, ← cfg]
    exact fun lower below => State.recomputeCeiling_raises ⟨lower, below⟩
  · rw [ceiling, ← own]
    intro h
    rw [State.recomputeCeiling_quiet h, written, fault]
  · rw [re, written]
    exact link
  · rw [re, written]
    unfold State.entryFrame at frame
    rw [frame]

/-- The plant's reaction leaves what was taken. -/
theorem State.Takes.trans {s t u : State} {n : Nat} {e : Entry} (h : s.Takes n e t)
    (k : t.stageFrame u) (fault : u.fault = t.fault) : s.Takes n e u where
  hears := by
    obtain ⟨v, hears, station⟩ := h.hears
    exact ⟨v, hears, k.station_eq.trans station⟩
  entry m := (State.entry_congr (by rw [k.table_eq]) m).trans (h.entry m)
  ceiling := h.ceiling.congr k.table_eq k.config_eq
  lowered := by
    rw [k.table_eq, fault]
    exact h.lowered
  kept := by
    rw [k.table_eq, fault]
    exact h.kept
  link := Link.sameButQueue_trans h.link k.2
  frame := by
    rw [k.1, h.frame]

/-! ## STATE_RECEIVED and LEAVE_RECEIVED -/

/-- R25: the receiver after a frame, with what follows at the queue. -/
theorem State.complete_sameButQueue {s t : State}
    (h : ({ s with link := s.link.complete } : State).link.sameButQueue t.link) :
    ({ s.link with idle := false, rx := .discard, afterFrame := true } : Link).sameButQueue t.link :=
  Link.sameButQueue_trans s.link.complete_sameButQueue h

theorem State.Hears.changed {s h : State} (k : s.Hears h) {n : Nat} (hn : 1 ≤ n ∧ n ≤ 48) (e : Entry)
    (marked : Bool) : s.Takes n e ((h.setEntry n e).recomputeCeiling.entryChanged marked) :=
  (k.takes hn e).trans (State.entryChanged_frame _ marked) (State.entryChanged_fault _ marked)

theorem State.Hears.entry_eq {s h : State} (k : s.Hears h) (n : Nat) : h.entry n = s.entry n :=
  State.entry_congr (by rw [k.frame]) n

theorem State.Hears.reports {s h : State} (k : s.Hears h) (hs : s.station.state.reports = true) :
    h.station.state.reports = true := by
  by_cases returns : s.Returns
  · rw [k.returned returns]
    rfl
  · rw [k.stayed returns]
    exact hs

/-- The return in the obligations' words. -/
theorem State.returns_iff (s : State) : s.Returns ↔
    s.station.state = .isolated ∧ s.station.cause ≠ .duplicate ∧ s.station.cause ≠ .none ∧
      s.link.drops = 0 := by
  unfold State.Returns
  cases s.station.cause <;> simp

theorem State.Hears.station_eq {s h t : State} (k : s.Hears h) (station : t.station = h.station) :
    (s.Returns → t.station =
        { s.station with state := .sharing, cause := .none, silence := some silenceTime }) ∧
      (¬ s.Returns → t.station = { s.station with silence := some silenceTime }) := by
  refine ⟨fun returns => station.trans (k.returned returns), fun stays => ?_⟩
  rw [station, k.stayed stays]

/-- The entry a STATE brings, and its end. -/
theorem State.takeState_takes (s : State) {n : Nat} (hn : 1 ≤ n ∧ n ≤ 48) (f : StateFrame)
    (before : State) :
    ({ s with link := s.link.complete } : State).Takes n ((s.entry n).takeState f)
      ((s.takeState n f).settleInto before) := by
  have hears := State.hearOther_hears { s with link := s.link.complete }
  have changed := hears.changed hn ((s.entry n).takeState f) (s.entry n).mark
  have entry : (State.hearOther { s with link := s.link.complete }).entry n = s.entry n :=
    hears.entry_eq n
  rw [State.takeState, entry]
  refine State.Takes.trans ?_ (State.settleInto_frame _ before) (State.settleInto_fault _ before)
  split
  · exact changed.trans (State.requestState_frame _ false) (State.requestState_fault _ false)
  · exact changed

/-- R31: a STATE with ROLL is answered. -/
theorem State.takeState_waiting {s : State} {n : Nat} (f : StateFrame) (before : State)
    (hn : 1 ≤ n ∧ n ≤ 48) (rolled : f.roll = true) (reports : s.station.state.reports = true) :
    ((s.takeState n f).settleInto before).link.stateSlot.waiting = true := by
  refine (State.settleInto_asked _ before).state ?_
  rw [State.takeState, if_pos rolled]
  refine State.requestState_waiting false ?_
  obtain ⟨h, hears, station⟩ :=
    ((State.hearOther_hears { s with link := s.link.complete }).changed hn
      (((State.hearOther { s with link := s.link.complete }).entry n).takeState f)
      ((State.hearOther { s with link := s.link.complete }).entry n).mark).hears
  rw [station]
  exact hears.reports reports

/-- Settles O24: the entry written, the ceiling recomputed, and the plant's reaction. -/
theorem stateReceivedUpdatesItsEntry : Obligations.StateReceivedUpdatesItsEntry := by
  intro s frame n id f hp hr hf hn
  have runs : exec (.stateReceived frame) s = .next ((s.takeState n f).settleInto s) := by
    change execStateReceived frame s = _
    rw [execStateReceived, hf]
    exact State.event_runs s _ _ hp (by simp [hr, hn])
  have range : 1 ≤ n ∧ n ≤ 48 := parseFrame_station hf
  refine ⟨_, runs, ?_⟩
  have t := s.takeState_takes range f s
  have waits := State.takeState_waiting (s := s) f s range
  generalize (s.takeState n f).settleInto s = u at *
  obtain ⟨h, hears, station⟩ := t.hears
  obtain ⟨returned, stayed⟩ := hears.station_eq station
  have cfg : u.cfg = s.cfg := State.cfg_congr (by rw [t.frame])
  obtain ⟨below, least, attained⟩ := t.ceiling
  rw [cfg] at below attained
  refine ⟨?_, fun m hm => ?_, ?_, below, least, attained, t.lowered, t.kept, waits,
    State.complete_sameButQueue t.link, t.frame⟩
  · rw [t.entry n, if_pos rfl]
    rfl
  · rw [t.entry m, if_neg hm]
    rfl
  · by_cases returns : s.Returns
    · rw [if_pos (s.returns_iff.1 returns), if_pos (s.returns_iff.1 returns)]
      exact returned returns
    · rw [if_neg (mt s.returns_iff.2 returns), if_neg (mt s.returns_iff.2 returns)]
      exact stayed returns

/-- R56: a LEAVE of a station whose entry is not EMPTY. -/
theorem State.takeLeave_takes (s : State) {n : Nat} (hn : 1 ≤ n ∧ n ≤ 48)
    (stands : (s.entry n).state ≠ .empty) (before : State) :
    ({ s with link := s.link.complete } : State).Takes n (s.entry n).takeLeave
      ((s.takeLeave n).settleInto before) := by
  have hears := State.hearOther_hears { s with link := s.link.complete }
  have changed := hears.changed hn (s.entry n).takeLeave (s.entry n).mark
  have entry : (State.hearOther { s with link := s.link.complete }).entry n = s.entry n :=
    hears.entry_eq n
  rw [State.takeLeave, entry, if_neg stands]
  exact changed.trans (State.settleInto_frame _ before) (State.settleInto_fault _ before)

/-- Settles O25: an EMPTY entry stays as the rest of the table; any other is emptied. -/
theorem leaveReceivedEmptiesItsEntry : Obligations.LeaveReceivedEmptiesItsEntry := by
  intro s frame n id hp hr hf hn
  have runs : exec (.leaveReceived frame) s = .next ((s.takeLeave n).settleInto s) := by
    change execLeaveReceived frame s = _
    rw [execLeaveReceived, hf]
    exact State.event_runs s _ _ hp (by simp [hr, hn])
  have range : 1 ≤ n ∧ n ≤ 48 := parseFrame_station hf
  refine ⟨_, runs, ?_⟩
  have words {u h : State} (hears : State.Hears { s with link := s.link.complete } h)
      (station : u.station = h.station) :
      u.station.silence = some 6000 ∧
        (s.station.state = .isolated → s.station.cause = .silent ∨ s.station.cause = .transmit →
          s.link.drops = 0 → u.station.state = .sharing ∧ u.station.cause = .none) ∧
        (s.station.state ≠ .isolated → u.station = { s.station with silence := some 6000 }) := by
    obtain ⟨returned, stayed⟩ := hears.station_eq station
    refine ⟨?_, fun isolated cause drops => ?_, fun apart => stayed fun returns => apart returns.1⟩
    · by_cases returns : s.Returns
      · rw [returned returns]
        rfl
      · rw [stayed returns]
        rfl
    · rw [returned ⟨isolated, cause, drops⟩]
      exact ⟨rfl, rfl⟩
  by_cases empty : (s.entry n).state = .empty
  · have hears := State.hearOther_hears { s with link := s.link.complete }
    have same : s.takeLeave n = State.hearOther { s with link := s.link.complete } := by
      have entry : (State.hearOther { s with link := s.link.complete }).entry n = s.entry n :=
        hears.entry_eq n
      rw [State.takeLeave, entry, if_pos empty]
    rw [same]
    generalize State.hearOther _ = h at *
    have settled := State.settleInto_frame h s
    generalize h.settleInto s = u at *
    have frame := State.entryFrame_trans hears.frame settled.entryFrame
    have table : u.table = s.table := by rw [frame]
    obtain ⟨silence, returned, stayed⟩ := words hears settled.station_eq
    rw [if_pos empty]
    refine ⟨table, fun m _ => State.entry_congr (by rw [table]) m, silence, returned, stayed,
      State.complete_sameButQueue (Link.sameButQueue_trans hears.link settled.2), ?_⟩
    rw [frame]
  · have t := s.takeLeave_takes range empty s
    generalize (s.takeLeave n).settleInto s = u at *
    obtain ⟨h, hears, station⟩ := t.hears
    obtain ⟨silence, returned, stayed⟩ := words hears station
    have cfg : u.cfg = s.cfg := State.cfg_congr (by rw [t.frame])
    obtain ⟨below, least, attained⟩ := t.ceiling
    rw [cfg] at below attained
    rw [if_neg empty]
    refine ⟨⟨?_, least, below, attained⟩, fun m hm => ?_, silence, returned, stayed,
      State.complete_sameButQueue t.link, t.frame⟩
    · rw [t.entry n, if_pos rfl]
      rfl
    · rw [t.entry m, if_neg hm]
      rfl

end Sys2Proof.Machine

/-! # The end of an own attempt (R17, R19, R30 to R32, R36 to R38) -/

namespace Sys2Proof.Machine

/-! ## How the slots are left -/

/-- R30: a queue with no slot CURRENT, served: what waits goes on waiting, and the attempt count is 1 with
a slot waiting. -/
structure Link.Served (l k : Link) : Prop where
  leave : k.leaveSlot.waiting = l.leaveSlot.waiting
  shed : k.shedSlot.waiting = l.shedSlot.waiting
  state : k.stateSlot.waiting = l.stateSlot.waiting
  shedCall : k.shedCall = l.shedCall
  held : k.heldShed = l.heldShed
  again : k.again = l.again
  roll : k.roll = l.roll
  attempts : k.attempts =
    if k.leaveSlot.waiting || k.shedSlot.waiting || k.stateSlot.waiting then 1 else 0

theorem SlotState.not_waiting {a : SlotState} (hc : a ≠ .current) (hq : a ≠ .queued) :
    a.waiting = false := by
  cases a with
  | empty => rfl
  | queued => exact absurd rfl hq
  | current => exact absurd rfl hc

theorem Link.select_served {l : Link} (free : ¬ l.busy = true) (count : l.attempts = 0) :
    l.Served l.select := by
  obtain ⟨leave, shed, state⟩ := Link.busy_eq_false free
  unfold Link.select
  rw [if_neg free]
  split
  · rename_i hq
    exact ⟨by rw [hq]; rfl, rfl, rfl, rfl, rfl, rfl, rfl, rfl⟩
  · rename_i noLeave
    split
    · rename_i hq
      exact ⟨rfl, by rw [hq]; rfl, rfl, rfl, rfl, rfl, rfl, by simp [SlotState.waiting]⟩
    · rename_i noShed
      split
      · rename_i hq
        exact ⟨rfl, rfl, by rw [hq]; rfl, rfl, rfl, rfl, rfl, by simp [SlotState.waiting]⟩
      · rename_i noState
        refine ⟨rfl, rfl, rfl, rfl, rfl, rfl, rfl, ?_⟩
        rw [SlotState.not_waiting leave noLeave, SlotState.not_waiting shed noShed,
          SlotState.not_waiting state noState, count]
        rfl

theorem Link.Served.count {l k : Link} (h : l.Served k) (n : Nat) : l.Served (k.count n) := by
  rw [Link.count_eq]
  exact ⟨h.leave, h.shed, h.state, h.shedCall, h.held, h.again, h.roll, h.attempts⟩

/-- The transmit slots, their marks and calls, and the attempt count are the same. -/
structure Link.SameSlots (l k : Link) : Prop where
  leave : k.leaveSlot = l.leaveSlot
  shed : k.shedSlot = l.shedSlot
  state : k.stateSlot = l.stateSlot
  shedCall : k.shedCall = l.shedCall
  held : k.heldShed = l.heldShed
  again : k.again = l.again
  roll : k.roll = l.roll
  attempts : k.attempts = l.attempts

/-- A queue with no slot CURRENT, served by the Link Controller. -/
theorem Link.SameSlots.served {l m : Link} (h : l.SameSlots m) (free : ¬ l.busy = true)
    (count : l.attempts = 0) (n : Nat) : l.Served (m.select.count n) := by
  have freeM : ¬ m.busy = true := by
    rw [Link.busy, h.leave, h.shed, h.state]
    exact free
  have s := (Link.select_served freeM (h.attempts.trans count)).count n
  exact ⟨by rw [s.leave, h.leave], by rw [s.shed, h.shed], by rw [s.state, h.state],
    s.shedCall.trans h.shedCall, s.held.trans h.held, s.again.trans h.again, s.roll.trans h.roll,
    s.attempts⟩

/-- R30, R36: with a frame on the wire exactly one slot is CURRENT. -/
theorem Link.queueLaw_current {l : Link} {w : WireFrame} (law : l.queueLaw = true)
    (wire : l.onWire = some w) :
    (l.leaveSlot = .current ∧ l.shedSlot ≠ .current ∧ l.stateSlot ≠ .current) ∨
      (l.leaveSlot ≠ .current ∧ l.shedSlot = .current ∧ l.stateSlot ≠ .current) ∨
      (l.leaveSlot ≠ .current ∧ l.shedSlot ≠ .current ∧ l.stateSlot = .current) := by
  have one : l.currentCount = 1 := by
    by_contra other
    simp [Link.queueLaw, other, wire] at law
  have toNat (a : SlotState) : (a == .current).toNat = if a = .current then 1 else 0 := by
    cases a <;> rfl
  rw [Link.currentCount, toNat, toNat, toNat] at one
  by_cases leave : l.leaveSlot = .current <;> by_cases shed : l.shedSlot = .current <;>
    by_cases state : l.stateSlot = .current <;> simp_all

/-- R32: the LEAVE frame ends. -/
theorem Link.endCurrent_leave {l : Link} (h : l.leaveSlot = .current) (rolled : Bool) :
    l.endCurrent rolled =
      { l with attempts := 0, abandoned := false, leaveSlot := .empty, txOn := false } := by
  rw [Link.endCurrent]
  dsimp only
  rw [if_pos h]
  rfl

/-- R32: a SHED frame ends: held values are queued. -/
theorem Link.endCurrent_shed {l : Link} (hl : l.leaveSlot ≠ .current) (h : l.shedSlot = .current)
    (rolled : Bool) :
    l.endCurrent rolled = ({ l with attempts := 0, abandoned := false } : Link).endShed := by
  rw [Link.endCurrent]
  dsimp only
  rw [if_neg hl, if_pos h]

/-- R31: a STATE frame ends: its again mark queues another. -/
theorem Link.endCurrent_state {l : Link} (hl : l.leaveSlot ≠ .current)
    (hs : l.shedSlot ≠ .current) (h : l.stateSlot = .current) (rolled : Bool) :
    l.endCurrent rolled = ({ l with attempts := 0, abandoned := false } : Link).endState rolled := by
  rw [Link.endCurrent]
  dsimp only
  rw [if_neg hl, if_neg hs, if_pos h]

theorem Link.endCurrent_attempts (l : Link) (rolled : Bool) : (l.endCurrent rolled).attempts = 0 := by
  unfold Link.endCurrent
  dsimp only
  split
  · rfl
  · split
    · unfold Link.endShed
      split <;> rfl
    · split
      · unfold Link.endState
        dsimp only
        split <;> rfl
      · rfl

theorem Link.not_busy {l : Link} (leave : l.leaveSlot ≠ .current) (shed : l.shedSlot ≠ .current)
    (state : l.stateSlot ≠ .current) : ¬ l.busy = true := by
  simp [Link.busy, leave, shed, state]

/-- R37: the slots of a queue whose current frame ends, once served. -/
theorem Link.endCurrent_slotsEnded {l m : Link} {w : WireFrame} (law : l.queueLaw = true)
    (wire : l.onWire = some w) (rolled : Bool) (same : (l.endCurrent rolled).SameSlots m) (n : Nat) :
    l.slotsEnded (m.select.count n) rolled := by
  have serve (free : ¬ (l.endCurrent rolled).busy = true) :
      (l.endCurrent rolled).Served (m.select.count n) :=
    same.served free (l.endCurrent_attempts rolled) n
  generalize m.select.count n = k at serve
  rcases Link.queueLaw_current law wire with ⟨leave, shed, state⟩ | ⟨leave, shed, state⟩ |
    ⟨leave, shed, state⟩
  · rw [Link.endCurrent_leave leave] at serve
    have s := serve (Link.not_busy nofun shed state)
    exact ⟨fun _ => SlotState.empty_of_not_waiting s.leave, fun h => absurd leave h,
      fun h => absurd h shed, fun _ _ h => absurd h shed, fun _ => ⟨s.shed, s.shedCall, s.held⟩,
      fun h => absurd h state, fun h => absurd h state, fun _ => ⟨s.state, s.again, s.roll⟩,
      s.attempts⟩
  · rw [Link.endCurrent_shed leave shed] at serve
    cases held : l.heldShed with
    | none =>
      simp only [Link.endShed, held] at serve
      have s := serve (Link.not_busy leave nofun state)
      exact ⟨fun h => absurd h leave, fun _ => s.leave,
        fun _ _ => ⟨SlotState.empty_of_not_waiting s.shed, s.held⟩,
        fun c hc => absurd hc (by rw [held]; nofun),
        fun h => absurd shed h, fun h => absurd h state, fun h => absurd h state,
        fun _ => ⟨s.state, s.again, s.roll⟩, s.attempts⟩
    | some call =>
      simp only [Link.endShed, held] at serve
      have s := serve (Link.not_busy leave nofun state)
      refine ⟨fun h => absurd h leave, fun _ => s.leave, fun _ h => ?_, fun c hc _ => ?_,
        fun h => absurd shed h, fun h => absurd h state, fun h => absurd h state,
        fun _ => ⟨s.state, s.again, s.roll⟩, s.attempts⟩
      · rw [held] at h
        cases h
      · rw [held] at hc
        cases hc
        exact ⟨s.shed, s.shedCall, s.held⟩
  · rw [Link.endCurrent_state leave shed state] at serve
    cases again : l.again with
    | false =>
      simp only [Link.endState, again, Bool.false_eq_true, if_false] at serve
      have s := serve (Link.not_busy leave shed nofun)
      refine ⟨fun h => absurd h leave, fun _ => s.leave, fun h => absurd h shed,
        fun _ _ h => absurd h shed, fun _ => ⟨s.shed, s.shedCall, s.held⟩, fun _ h => ?_,
        fun _ _ => ⟨SlotState.empty_of_not_waiting s.state, s.again, s.roll⟩,
        fun h => absurd state h, s.attempts⟩
      rw [again] at h
      cases h
    | true =>
      simp only [Link.endState, again, if_true] at serve
      have s := serve (Link.not_busy leave shed nofun)
      refine ⟨fun h => absurd h leave, fun _ => s.leave, fun h => absurd h shed,
        fun _ _ h => absurd h shed, fun _ => ⟨s.shed, s.shedCall, s.held⟩,
        fun _ _ => ⟨s.state, s.again, s.roll⟩, fun _ h => ?_, fun h => absurd state h,
        s.attempts⟩
      rw [again] at h
      cases h

end Sys2Proof.Machine

/-! # ATTEMPT_FAILED and FRAME_SENT -/

namespace Sys2Proof.Machine

/-! ## The link at the end of an attempt -/

/-- R32: beside the queue, the end of a frame clears the mark of a frame given up, and turns the
transmitter off after a LEAVE. -/
theorem Link.endCurrent_sameButQueue (l : Link) (rolled : Bool) :
    ({ l with
        abandoned := false
        txOn := if l.leaveSlot = .current then false else l.txOn } : Link).sameButQueue
      (l.endCurrent rolled) := by
  by_cases leave : l.leaveSlot = .current
  · rw [Link.endCurrent_leave leave, if_pos leave]
    rfl
  · rw [if_neg leave]
    by_cases shed : l.shedSlot = .current
    · rw [Link.endCurrent_shed leave shed, Link.endShed]
      split <;> rfl
    · by_cases state : l.stateSlot = .current
      · rw [Link.endCurrent_state leave shed state, Link.endState]
        dsimp only
        split <;> rfl
      · rw [Link.endCurrent]
        dsimp only
        rw [if_neg leave, if_neg shed, if_neg state]
        rfl

/-- The release of LNK_DE leaves the slots. -/
theorem Link.endCurrent_release (l : Link) (rolled : Bool) :
    l.release.endCurrent rolled = (l.endCurrent rolled).release := by
  by_cases leave : l.leaveSlot = .current
  · rw [Link.endCurrent_leave leave, Link.endCurrent_leave (l := l.release) leave]
    rfl
  · by_cases shed : l.shedSlot = .current
    · rw [Link.endCurrent_shed leave shed, Link.endCurrent_shed (l := l.release) leave shed]
      simp only [Link.endShed, Link.release]
      cases l.heldShed <;> rfl
    · by_cases state : l.stateSlot = .current
      · rw [Link.endCurrent_state leave shed state,
          Link.endCurrent_state (l := l.release) leave shed state, Link.endState, Link.endState]
        dsimp only
        by_cases again : l.again = true
        · rw [if_pos again, if_pos (show l.release.again = true from again)]
          rfl
        · rw [if_neg again, if_neg (show ¬ l.release.again = true from again)]
          rfl
      · simp only [Link.endCurrent, Link.release, leave, shed, state, if_false]

theorem State.serveLink_sameButQueue (s : State) : s.link.sameButQueue s.serveLink.link :=
  State.serveLink_frame s

/-! ## Events of the link alone -/

/-- R36: LNK_DE at the end of an event. -/
theorem State.settleInto_lnkDe {s : State} (before : State) (wire : s.link.onWire = none)
    (cut : s.link.cutOff = false) : (s.settleInto before).pins.lnkDe = false := by
  have kept := (State.settleInto_frame s before).2
  rw [State.settleInto_pins]
  show ((s.settleInto before).link.onWire.isSome || (s.settleInto before).link.cutOff) = false
  rw [kept.onWire, kept.cutOff, wire, cut]
  rfl

/-- An event that writes the Link Controller, at its end. -/
theorem State.settleInto_linkEvent (s : State) (l : Link) :
    (({ s with link := l } : State).settleInto s) = { s with
        link := (({ s with link := l } : State).settleInto s).link
        adm := (({ s with link := l } : State).settleInto s).adm
        mode := (({ s with link := l } : State).settleInto s).mode
        stage := (({ s with link := l } : State).settleInto s).stage
        pins := (({ s with link := l } : State).settleInto s).pins } ∧
      l.sameButQueue (({ s with link := l } : State).settleInto s).link := by
  have frame := State.settleInto_frame { s with link := l } s
  have fault := State.settleInto_fault { s with link := l } s
  generalize State.settleInto _ _ = t at *
  refine ⟨?_, frame.2⟩
  rw [frame.1, fault]

theorem State.settleInto_linkEvent_held {s : State} (h : s.startsHeld = true) (l : Link) :
    (({ s with link := l } : State).settleInto s).link = l ∧
      (({ s with link := l } : State).settleInto s).adm = s.adm ∧
      (({ s with link := l } : State).settleInto s).mode = s.mode ∧
      (({ s with link := l } : State).settleInto s).stage =
        { s.stage with
          presented := (({ s with link := l } : State).settleInto s).stage.presented } := by
  rw [State.settleInto_held (s := { s with link := l }) (before := s) h rfl]
  exact ⟨rfl, rfl, rfl, rfl⟩

/-! ## A failed attempt -/

/-- R37: a failed attempt below the limit. -/
theorem State.failAttempt_retries {s : State} (w : WireFrame) (abandoned : s.link.abandoned = false)
    (busy : s.link.busy = true) (attempts : s.link.attempts < 8) :
    s.failAttempt w = { s with link := { s.link with
      onWire := none, cutOff := false, spacing := some 50, backoff := none
      attempts := s.link.attempts + 1 } } := by
  have kept : ¬ s.link.release.abandoned = true := by
    show ¬ s.link.abandoned = true
    rw [abandoned]
    nofun
  have below : s.link.release.attempts < maxAttempts := attempts
  rw [State.failAttempt]
  dsimp only
  rw [if_neg kept, if_pos below, State.serveLink]
  dsimp only
  rw [Link.select, if_pos (show Link.busy { s.link.release with attempts := _ } = true from busy),
    Link.count, if_neg (by simp [Link.release])]
  rfl

/-- R37: an abandoned frame is given up. -/
theorem State.failAttempt_abandoned {s : State} (w : WireFrame) (h : s.link.abandoned = true) :
    s.failAttempt w = { s with
      link := ((s.link.endCurrent w.roll).release.select).count s.number } := by
  have given : s.link.release.abandoned = true := h
  rw [State.failAttempt]
  rw [if_pos given, Link.endCurrent_release]
  rfl

/-- R38: the frame dropped at its 8th attempt. -/
theorem State.failAttempt_drops {s : State} (w : WireFrame) (abandoned : s.link.abandoned = false)
    (attempts : 8 ≤ s.link.attempts) :
    s.failAttempt w = (State.dropReported
      { s with link := (s.link.endCurrent w.roll).release.countDrop }).serveLink := by
  have kept : ¬ s.link.release.abandoned = true := by
    show ¬ s.link.abandoned = true
    rw [abandoned]
    nofun
  have limit : ¬ s.link.release.attempts < maxAttempts := Nat.not_lt.2 attempts
  rw [State.failAttempt]
  rw [if_neg kept, if_neg limit, Link.endCurrent_release]

/-- R17: what a report of a third drop or later does. -/
structure State.DropTold (s t : State) : Prop where
  station : t.station = { s.station with
    state := if s.station.state = .sharing then .isolated else s.station.state
    cause :=
      if s.station.state = .sharing ∨ (s.station.state = .isolated ∧ s.station.cause = .silent)
      then .transmit else s.station.cause }
  held : Category.linkTx.within t.fault.heldSet = true
  frame : s.entryFrame t
  link : s.link.sameButQueue t.link
  apart : s.station.state ≠ .sharing → t = { s with station := t.station, fault := t.fault }
  sharing : s.station.state = .sharing → t.link.shedSlot = .empty ∧ t.link.heldShed = none ∧
    t.link.stateSlot.waiting = true

theorem State.dropReported_below {s : State} (h : s.link.drops < dropLimit) :
    s.dropReported = s := by
  rw [State.dropReported, if_neg (Nat.not_le.2 h)]

/-- R17: outside SHARING a drop reported reaches the cause and the Fault Capture. -/
theorem State.dropReported_apart {s : State} (h : dropLimit ≤ s.link.drops)
    (apart : s.station.state ≠ .sharing) :
    s.dropReported = ({ s with station.cause :=
      if s.station.state = .isolated ∧ s.station.cause = .silent then .transmit
      else s.station.cause } : State).raise .linkTx := by
  rw [State.dropReported, if_pos h]
  cases hs : s.station.state with
  | sharing => exact absurd hs apart
  | isolated =>
    by_cases hc : s.station.cause = .silent
    · simp only [hc, if_true, true_and]
    · simp only [hc, if_false, and_false]
  | config => simp only [reduceCtorEq, false_and, if_false]
  | joining => simp only [reduceCtorEq, false_and, if_false]
  | solo => simp only [reduceCtorEq, false_and, if_false]
  | shutdown => simp only [reduceCtorEq, false_and, if_false]
  | left => simp only [reduceCtorEq, false_and, if_false]

/-- R17: in SHARING it isolates. -/
theorem State.dropReported_sharing {s : State} (h : dropLimit ≤ s.link.drops)
    (sharing : s.station.state = .sharing) :
    s.dropReported = (s.enterIsolated .transmit).raise .linkTx := by
  rw [State.dropReported, if_pos h]
  simp only [sharing]

theorem State.dropReported_told {s : State} (h : dropLimit ≤ s.link.drops)
    (wire : s.link.onWire = none) : s.DropTold s.dropReported := by
  by_cases sharing : s.station.state = .sharing
  · rw [State.dropReported_sharing h sharing]
    have e := (s.enterIsolated_enters .transmit).trans (State.raise_frame _ .linkTx)
    have asked := s.enterIsolated_asked .transmit
    have waiting := s.enterIsolated_waiting .transmit
    have held := State.raise_holds (s.enterIsolated .transmit) .linkTx
    have link := State.raise_link (s.enterIsolated .transmit) .linkTx
    rw [State.setStation_leaving .transmit sharing (by nofun)] at asked
    rw [← link] at asked waiting
    generalize State.raise _ _ = t at *
    have empty : t.link.shedSlot.waiting = false := by
      rw [asked.shed, Link.dropShed_empties wire]
      rfl
    exact
      { station := by rw [e.station, if_pos sharing, if_pos (.inl sharing)]
        held := held
        frame := e.frame
        link := e.sameButQueue (.inr wire)
        apart := fun apart => absurd sharing apart
        sharing := fun _ => ⟨SlotState.empty_of_not_waiting empty,
          asked.held.trans s.link.dropShed_held, waiting⟩ }
  · rw [State.dropReported_apart h sharing]
    have held := State.raise_holds ({ s with station.cause :=
      if s.station.state = .isolated ∧ s.station.cause = .silent then .transmit
      else s.station.cause }) .linkTx
    rw [State.raise_eq] at held ⊢
    exact
      { station := by rw [if_neg sharing, if_congr (or_iff_right sharing) rfl rfl]
        held := held
        frame := rfl
        link := rfl
        apart := fun _ => rfl
        sharing := fun hs => absurd hs sharing }

theorem State.attemptFailed_runs {s : State} {w : WireFrame} (cause : ReadBackFailure)
    (hp : s.powered = true) (wire : s.link.onWire = some w) :
    exec (.attemptFailed cause) s = .next ((s.failAttempt w).settleInto s) := by
  change execAttemptFailed cause s = _
  rw [execAttemptFailed, wire]
  exact State.event_runs s true _ hp rfl

/-- R36: the link at the end of an attempt, before its slots are served. -/
theorem Link.ended_sameButQueue (l : Link) (rolled : Bool) :
    ({ l with
        onWire := none, cutOff := false, spacing := some 50, abandoned := false
        txOn := if l.leaveSlot = .current then false else l.txOn } : Link).sameButQueue
      (l.endCurrent rolled).release := by
  have ended := l.endCurrent_sameButQueue rolled
  unfold Link.sameButQueue at *
  rw [ended]
  rfl

theorem Link.served_sameButQueue (l : Link) (n : Nat) : l.sameButQueue (l.select.count n) :=
  Link.sameButQueue_trans l.select_frame (Link.count_frame n _)

/-- The slots of the frame that ends, whatever else of the link is written. -/
theorem Link.SameSlots.released (l : Link) : l.SameSlots l.release :=
  ⟨rfl, rfl, rfl, rfl, rfl, rfl, rfl, rfl⟩

/-- The link after a drop, before its slots are served. -/
theorem Link.dropped_sameButQueue {l : Link} (rolled : Bool) (kept : l.abandoned = false) :
    ({ l with
        onWire := none, cutOff := false, spacing := some 50, drops := min 255 (l.drops + 1)
        txOn := if l.leaveSlot = .current then false else l.txOn } : Link).sameButQueue
      (l.endCurrent rolled).release.countDrop := by
  have ended := l.ended_sameButQueue rolled
  unfold Link.sameButQueue at *
  rw [Link.countDrop, ended]
  simp only [kept]

theorem Link.SameSlots.dropped (l : Link) : l.SameSlots l.release.countDrop :=
  ⟨rfl, rfl, rfl, rfl, rfl, rfl, rfl, rfl⟩

/-- A drop told, at the end of its event. -/
structure State.DropEnds (s t : State) : Prop where
  pin : t.pins.lnkDe = false
  link : s.link.sameButQueue t.link
  frame : s.entryFrame t
  held : Category.linkTx.within t.fault.heldSet = true
  station : t.station = { s.station with
    state := if s.station.state = .sharing then .isolated else s.station.state
    cause :=
      if s.station.state = .sharing ∨ (s.station.state = .isolated ∧ s.station.cause = .silent)
      then .transmit else s.station.cause }
  sharing : s.station.state = .sharing → t.link.shedSlot = .empty ∧ t.link.heldShed = none ∧
    t.link.stateSlot.waiting = true
  apart : s.station.state ≠ .sharing → s.startsHeld = true →
    t.link = s.link.select.count s.number

theorem State.DropTold.ends {s v before : State} (told : s.DropTold v)
    (wire : s.link.onWire = none) (cut : s.link.cutOff = false)
    (same : before.station.state = s.station.state) :
    s.DropEnds (v.serveLink.settleInto before) := by
  have served := v.serveLink_sameButQueue
  have asked := v.serveLink_asked
  have moved : v.entryFrame v.serveLink := rfl
  have fault : v.serveLink.fault = v.fault := rfl
  have station : v.serveLink.station = v.station := rfl
  have queue := Link.sameButQueue_trans told.link served
  have settled := State.settleInto_frame v.serveLink before
  refine
    { pin := State.settleInto_lnkDe before (queue.onWire.trans wire) (queue.cutOff.trans cut)
      link := Link.sameButQueue_trans queue settled.2
      frame := State.entryFrame_trans (State.entryFrame_trans told.frame moved) settled.entryFrame
      held := State.settleInto_holds before (fault ▸ told.held)
      station := settled.station_eq.trans (station.trans told.station)
      sharing := fun sharing => ?_
      apart := fun apart held => ?_ }
  · obtain ⟨shed, held, waiting⟩ := told.sharing sharing
    have isolated : v.serveLink.station.state ≠ .sharing := by
      rw [station, told.station, if_pos sharing]
      nofun
    have all := asked.trans (State.settleInto_stateAsked before isolated)
    refine ⟨SlotState.empty_of_not_waiting ?_, all.held.trans held, all.state waiting⟩
    rw [all.shed, shed]
    rfl
  · have state : v.station.state = s.station.state := by rw [told.station, if_neg apart]
    have reached := told.apart apart
    have kept : v.serveLink.adm = s.adm := by
      rw [reached]
      rfl
    have link : v.serveLink.link = s.link.select.count s.number := by
      rw [reached]
      rfl
    have held : v.serveLink.startsHeld = true := by
      rw [State.startsHeld_iff] at held ⊢
      rw [kept, station, state]
      exact held
    rw [State.settleInto_held held]
    · exact link
    · rw [State.offer_elsewhere (by rw [station, state]; exact apart),
        State.offer_elsewhere (by rw [same]; exact apart)]

/-- Settles O30: the retry, the drop and the frame given up. -/
theorem failedAttemptsRetryThenDrop : Obligations.FailedAttemptsRetryThenDrop := by
  refine ⟨fun s cause w hp wire abandoned busy attempts => ?_,
    fun s cause w hp wire abandoned attempts => ?_, fun s cause w hp wire abandoned => ?_⟩
  · refine ⟨_, State.attemptFailed_runs cause hp wire, ?_⟩
    rw [State.failAttempt_retries w abandoned busy attempts]
    generalize hl : ({ s.link with
      onWire := none, cutOff := false, spacing := some 50, backoff := none
      attempts := s.link.attempts + 1 } : Link) = l
    have retried : ({ s.link with onWire := none, cutOff := false, spacing := some 50 } :
        Link).sameButQueue l := by
      rw [← hl]
      rfl
    obtain ⟨frame, queue⟩ := s.settleInto_linkEvent l
    have held (h : s.startsHeld = true) := State.settleInto_linkEvent_held h l
    have asked := State.settleInto_asked { s with link := l } s
    have pin := State.settleInto_lnkDe (s := { s with link := l }) s (by rw [← hl]) (by rw [← hl])
    generalize State.settleInto _ _ = t at *
    subst hl
    exact ⟨asked.attempts busy, pin, asked.leaveCurrent, asked.shedCurrent,
      fun h => ⟨asked.stateCurrent h, asked.roll (congrArg SlotState.waiting h)⟩, held,
      Link.sameButQueue_trans retried queue, frame⟩
  · refine ⟨_, State.attemptFailed_runs cause hp wire, ?_⟩
    rw [State.failAttempt_drops w abandoned attempts]
    have kept := Link.dropped_sameButQueue w.roll abandoned
    have slots := Link.SameSlots.dropped (s.link.endCurrent w.roll)
    have ended (law : s.link.queueLaw = true) :=
      Link.endCurrent_slotsEnded law wire w.roll slots s.number
    generalize (s.link.endCurrent w.roll).release.countDrop = l at *
    have count : l.drops = min 255 (s.link.drops + 1) := by rw [kept]
    by_cases drops : s.link.drops + 1 < 3
    · have below : l.drops < dropLimit := by
        rw [count]
        show min 255 (s.link.drops + 1) < 3
        omega
      rw [State.dropReported_below (s := { s with link := l }) below]
      have served := l.served_sameButQueue s.number
      have serve : State.serveLink { s with link := l } =
          { s with link := l.select.count s.number } := rfl
      rw [serve]
      generalize l.select.count s.number = k at *
      have kept := Link.sameButQueue_trans kept served
      obtain ⟨frame, queue⟩ := s.settleInto_linkEvent k
      have held (h : s.startsHeld = true) := State.settleInto_linkEvent_held h k
      have pin := State.settleInto_lnkDe (s := { s with link := k }) s kept.onWire kept.cutOff
      generalize State.settleInto _ _ = t at *
      refine ⟨pin, fun law h _ => ?_, fun _ h => absurd h (by omega),
        Link.sameButQueue_trans kept queue, ?_, fun _ => ⟨?_, ?_⟩, fun h => absurd h (by omega)⟩
      · rw [(held h).1]
        exact ended law
      · rw [frame]
      · rw [frame]
      · rw [frame]
    · have limit : dropLimit ≤ l.drops := by
        rw [count]
        show 3 ≤ min 255 (s.link.drops + 1)
        omega
      have d := (State.dropReported_told (s := { s with link := l }) limit kept.onWire).ends
        (before := s) kept.onWire kept.cutOff rfl
      generalize State.settleInto _ _ = t at *
      refine ⟨d.pin, fun law h free => ?_, fun sharing _ => d.sharing sharing,
        Link.sameButQueue_trans kept d.link, d.frame, fun h => absurd h drops,
        fun _ => ⟨d.held, d.station⟩⟩
      rw [d.apart (fun sharing => free ⟨sharing, by omega⟩) h]
      exact ended law
  · refine ⟨_, State.attemptFailed_runs cause hp wire, ?_⟩
    rw [State.failAttempt_abandoned w abandoned]
    have kept := Link.sameButQueue_trans (s.link.ended_sameButQueue w.roll)
      ((s.link.endCurrent w.roll).release.served_sameButQueue s.number)
    have ended (law : s.link.queueLaw = true) := Link.endCurrent_slotsEnded law wire w.roll
      (.released (s.link.endCurrent w.roll)) s.number
    generalize (s.link.endCurrent w.roll).release.select.count s.number = l at *
    obtain ⟨frame, queue⟩ := s.settleInto_linkEvent l
    have held (h : s.startsHeld = true) := State.settleInto_linkEvent_held h l
    have pin := State.settleInto_lnkDe (s := { s with link := l }) s kept.onWire kept.cutOff
    generalize State.settleInto _ _ = t at *
    refine ⟨pin, fun law h => ?_, Link.sameButQueue_trans kept queue, frame⟩
    rw [(held h).1]
    exact ended law

end Sys2Proof.Machine

/-! # FRAME_SENT (R19, R37 to R39, R45) -/

namespace Sys2Proof.Machine

/-- R37 to R39, R45: the link after a sent frame, before its slots are served. -/
def Link.sent (l : Link) (rolled : Bool) : Link :=
  { (l.endCurrent rolled).release.countTest with
    drops := 0
    report :=
      if l.stateSlot == .current && !l.abandoned then some reportPeriod
      else (l.endCurrent rolled).release.countTest.report }

theorem State.sendFrame_eq (s : State) (w : WireFrame) :
    s.sendFrame w =
      ({ s with link := (s.link.sent w.roll).select.count s.number } : State).returnToSharing
        s.station.silence.isSome := by
  rw [State.sendFrame, Link.endCurrent_release]
  rfl

theorem Link.sent_sameButQueue (l : Link) (rolled : Bool) :
    ({ l with
        drops := 0, onWire := none, cutOff := false, spacing := some 50, abandoned := false
        testCount := l.testCount - 1
        testMask := if l.testCount ≤ 1 then 0 else l.testMask
        report :=
          if l.stateSlot = .current ∧ l.abandoned = false then some 2000 else l.report
        txOn := if l.leaveSlot = .current then false else l.txOn } : Link).sameButQueue
      (l.sent rolled) := by
  have ended := l.ended_sameButQueue rolled
  have reload : (l.stateSlot == .current && !l.abandoned) = true ↔
      l.stateSlot = .current ∧ l.abandoned = false := by simp
  unfold Link.sameButQueue at *
  rw [Link.sent, ended]
  simp only [Link.countTest, reload]
  rfl

theorem Link.SameSlots.sent (l : Link) (rolled : Bool) :
    (l.endCurrent rolled).SameSlots
      (l.sent rolled) := by
  unfold Link.sent
  generalize l.endCurrent rolled = e
  exact ⟨rfl, rfl, rfl, rfl, rfl, rfl, rfl, rfl⟩

theorem Link.sent_leave {l : Link} (h : l.leaveSlot = .current) (rolled : Bool) :
    (l.sent rolled).leaveSlot = .empty := by
  rw [(Link.SameSlots.sent l rolled).leave, Link.endCurrent_leave h]

/-- R19: the silence timer runs and the isolation is of the kinds that end by themselves. -/
def State.Rejoins (s : State) : Prop :=
  s.station.state = .isolated ∧ (s.station.cause = .silent ∨ s.station.cause = .transmit) ∧
    s.station.silence.isSome = true

theorem State.rejoins_iff (s : State) : s.Rejoins ↔
    s.station.state = .isolated ∧ s.station.cause ≠ .duplicate ∧ s.station.cause ≠ .none ∧
      s.station.silence.isSome = true := by
  unfold State.Rejoins
  cases s.station.cause <;> simp

theorem State.enterWorking_asked {s : State} (new : StationState)
    (h : s.station.state ≠ .sharing) : s.link.Asked (s.enterWorking new).link := by
  rw [State.enterWorking]
  refine (State.blind_asked s.link).entryEnd _ s ?_
  rw [State.setStation_apart new .none h]
  exact .refl s.link

theorem State.frameSent_runs {s : State} {w : WireFrame} (hp : s.powered = true)
    (wire : s.link.onWire = some w) :
    exec .frameSent s = .next ((s.sendFrame w).settleInto s) := by
  change execFrameSent s = _
  rw [execFrameSent, wire]
  exact State.event_runs s true _ hp rfl

/-- What a sent frame leaves at the end of its event. -/
structure State.SendEnds (s : State) (l : Link) (t : State) : Prop where
  pin : t.pins.lnkDe = false
  link : l.sameButQueue t.link
  asked : l.Asked t.link
  frame : s.entryFrame t
  fault : t.fault = s.fault
  returned : s.Rejoins → t.station = { s.station with state := .sharing, cause := .none }
  stayed : ¬ s.Rejoins → t.station = s.station
  kept : ¬ s.Rejoins → s.startsHeld = true → t.link = l

theorem State.sendEnds (s : State) {l : Link} (wire : l.onWire = none) (cut : l.cutOff = false) :
    s.SendEnds l ((({ s with link := l } : State).returnToSharing
      s.station.silence.isSome).settleInto s) := by
  by_cases returns : s.Rejoins
  · have apart : s.station.state ≠ .sharing := by
      rw [returns.1]
      nofun
    have entered : ({ s with link := l } : State).returnToSharing s.station.silence.isSome =
        State.enterWorking { s with link := l } .sharing := by
      rw [State.returnToSharing]
      exact if_pos returns
    rw [entered]
    have e := State.enterWorking_enters { s with link := l } .sharing
    have queue := e.sameButQueue (.inl apart)
    have asked := State.enterWorking_asked (s := { s with link := l }) .sharing apart
    have fault := State.enterWorking_fault { s with link := l } .sharing
    have moved : s.entryFrame { s with link := l } := rfl
    generalize State.enterWorking _ _ = u at *
    have settled := State.settleInto_frame u s
    exact
      { pin := State.settleInto_lnkDe s (queue.onWire.trans wire) (queue.cutOff.trans cut)
        link := Link.sameButQueue_trans queue settled.2
        asked := asked.trans (State.settleInto_asked u s)
        frame := State.entryFrame_trans (State.entryFrame_trans moved e.frame) settled.entryFrame
        fault := (State.settleInto_fault u s).trans fault
        returned := fun _ => settled.station_eq.trans e.station
        stayed := fun stays => absurd returns stays
        kept := fun stays => absurd returns stays }
  · have stays : ({ s with link := l } : State).returnToSharing s.station.silence.isSome =
        { s with link := l } := by
      rw [State.returnToSharing]
      exact if_neg returns
    rw [stays]
    have settled := State.settleInto_frame { s with link := l } s
    have moved : s.entryFrame { s with link := l } := rfl
    exact
      { pin := State.settleInto_lnkDe (s := { s with link := l }) s wire cut
        link := settled.2
        asked := State.settleInto_asked { s with link := l } s
        frame := State.entryFrame_trans moved settled.entryFrame
        fault := State.settleInto_fault { s with link := l } s
        returned := fun returned => absurd returned returns
        stayed := fun _ => settled.station_eq
        kept := fun _ held => (State.settleInto_linkEvent_held held l).1 }

/-- Settles O31: the slots left, the timers reloaded, and the isolation that ends. -/
theorem sentFrameEndsTheAttempt : Obligations.SentFrameEndsTheAttempt := by
  intro s w hp wire
  refine ⟨_, State.frameSent_runs hp wire, ?_⟩
  rw [State.sendFrame_eq]
  have kept := Link.sameButQueue_trans (s.link.sent_sameButQueue w.roll)
    ((s.link.sent w.roll).served_sameButQueue s.number)
  have ended (law : s.link.queueLaw = true) :=
    Link.endCurrent_slotsEnded law wire w.roll (.sent s.link w.roll) s.number
  have served := ((s.link.sent w.roll).select_asked.trans (Link.count_asked s.number _)).leave
  generalize (s.link.sent w.roll).select.count s.number = l at *
  have d := s.sendEnds kept.onWire kept.cutOff
  generalize State.settleInto _ _ = t at *
  refine ⟨d.pin, fun leave => SlotState.empty_of_not_waiting ?_, fun law held stays => ?_,
    Link.sameButQueue_trans kept d.link, ?_, d.frame, d.fault⟩
  · rw [d.asked.leave, served, Link.sent_leave leave]
    rfl
  · rw [d.kept (mt s.rejoins_iff.1 stays) held]
    exact ended law
  · by_cases returns : s.Rejoins
    · rw [if_pos (s.rejoins_iff.1 returns), if_pos (s.rejoins_iff.1 returns)]
      exact d.returned returns
    · rw [if_neg (mt s.rejoins_iff.2 returns), if_neg (mt s.rejoins_iff.2 returns)]
      exact d.stayed returns

end Sys2Proof.Machine

/-! # SMOKE, FILTER and the high-pressure inputs (R21, R152, R153, R156, R183 to R185) -/

namespace Sys2Proof.Machine

/-! ## A raise that waits for the handling of the blocks (R184) -/

/-- The end of an event with a raise after the starts it brings. -/
def State.settleRaised (s before : State) (c : Category) : State :=
  ((s.settleStarts before).raise c).drivePins

/-- Beside the Fault Capture and the pins it is the end of the event without the raise. -/
theorem State.settleRaised_eq (s before : State) (c : Category) :
    s.settleRaised before c = { s.settleInto before with
      fault := (s.settleRaised before c).fault, pins := (s.settleRaised before c).pins } := by
  have settled : s.settleInto before =
      { s.settleStarts before with pins := (s.settleInto before).pins } := rfl
  have raised (v : State) : (v.raise c).drivePins =
      { v with fault := (v.raise c).drivePins.fault, pins := (v.raise c).drivePins.pins } := by
    rw [v.raise_eq c]
    rfl
  rw [settled, State.settleRaised, raised]

theorem State.settleRaised_holds (s before : State) (c : Category) :
    c.within (s.settleRaised before c).fault.heldSet = true := by
  rw [State.settleRaised, State.drivePins_fault]
  exact State.raise_holds _ c

theorem State.settleRaised_stagePins (s before : State) (c : Category) :
    (s.settleRaised before c).pins.stages = (s.settleInto before).pins.stages := by
  have runs : State.isRunning ((s.settleStarts before).raise c) =
      (s.settleStarts before).isRunning :=
    funext (State.isRunning_congr (by rw [State.raise_stage]))
  rw [State.settleInto]
  show PerSlot.of (State.isRunning ((s.settleStarts before).raise c)) = _
  rw [runs]
  rfl

/-! ## Entry to SHUTDOWN -/

/-- The stages, the Admission Unit and the mode after entry to SHUTDOWN, at the end of its event. -/
theorem State.enterShutdown_rested (s before : State) :
    s.Rested (s.enterShutdown.settleInto before) := by
  obtain ⟨quiet, rests, adm⟩ := s.setStation_stopped .shutdown .none
  have station : (s.setStation .shutdown .none).stopAll.admissionIdle.requestState.station =
      { s.station with state := .shutdown, cause := .none } := by
    rw [State.requestState_station, (State.admissionIdle_stageFrame _).station_eq,
      (State.stopAll_frame _).station_eq, State.setStation_station]
  rw [State.enterShutdown]
  generalize (s.setStation .shutdown .none).stopAll.admissionIdle = u at *
  refine State.rested s before (quiet.congr (by simp))
    (fun i running => (rests i running).of_stage (by simp) (by simp))
    (by rw [State.requestState_adm]; exact adm) ?_ ?_
  · rw [station]
    rfl
  · rw [station]
    nofun

theorem State.stopTaken_congr {s t u : State} {i : Slot} (h : s.stopTaken t i)
    (stage : u.stage = t.stage) (pins : u.pins.stages = t.pins.stages) : s.stopTaken u i := by
  unfold State.stopTaken State.stageState State.slot at *
  rw [stage, pins]
  exact h

/-- What SMOKE accepted ACTIVE leaves of a working station. -/
structure State.ShutBy (s t : State) : Prop where
  station : t.station = { s.station with state := .shutdown, cause := .none }
  stopped : ∀ i : Slot, s.isRunning i = true → s.stopTaken t i
  quiet : t.Quiet
  idle : t.adm.state = .idle ∧ t.adm.claim = none
  off : t.mode.fan = false ∧ t.mode.damper = 0
  waiting : t.link.stateSlot.waiting = true
  held : Category.smoke.within t.fault.heldSet = true
  link : ({ s.link with abandoned := t.link.abandoned } : Link).sameButQueue t.link
  frame : s.entryFrame t

theorem State.shutBy (s before : State) :
    s.ShutBy (s.enterShutdown.settleRaised before .smoke) := by
  have r := s.enterShutdown_rested before
  have e := s.enterShutdown_enters.trans (State.settleInto_frame _ before)
  have waiting := (State.settleInto_asked _ before).state s.enterShutdown_waiting
  have raised := s.enterShutdown.settleRaised_eq before .smoke
  have held := s.enterShutdown.settleRaised_holds before .smoke
  have pins := s.enterShutdown.settleRaised_stagePins before .smoke
  generalize s.enterShutdown.settleRaised before .smoke = t at *
  generalize s.enterShutdown.settleInto before = w at *
  obtain ⟨fan, damper, _⟩ := r.shut
  have moved : w.entryFrame t := by
    unfold State.entryFrame
    rw [raised]
  have link : t.link = w.link := by rw [raised]
  have adm : t.adm = w.adm := by rw [raised]
  have mode : t.mode = w.mode := by rw [raised]
  have stage : t.stage = w.stage := by rw [raised]
  exact
    { station := by rw [raised, ← e.station]
      stopped := fun i running => State.stopTaken_congr (r.stopped i running) stage pins
      quiet := r.quiet.congr (by rw [stage])
      idle := by
        rw [adm, r.adm.1]
        exact ⟨rfl, rfl⟩
      off := by
        rw [mode]
        exact ⟨fan, damper⟩
      waiting := by
        rw [link]
        exact waiting
      held := held
      link := by
        rw [link]
        exact e.abandoning
      frame := State.entryFrame_trans e.frame moved }

/-! ## A tripped stage (R152, R157) -/

/-- A tripped stage at rest, its trip raised. -/
theorem State.trip_rests {s : State} {i : Slot} (running : s.isRunning i = true) (cause : Category) :
    (s.trip i cause).Rests i { s.trippedStage i with prove := none } := by
  have stage := s.trip_stage i cause
  rw [if_pos running] at stage
  refine ⟨?_, ?_⟩
  · rw [State.slot_congr (t := s.trip i cause)
      (s := { s with stage := s.stage.takeOut i (s.trippedStage i) }) (by rw [stage]),
      State.slot_takeOut, if_pos rfl]
  · rw [stage, StageCtl.takeOut_order]
    simp

theorem State.trip_holds {s : State} {i : Slot} (running : s.isRunning i = true) (cause : Category) :
    cause.within (s.trip i cause).fault.heldSet = true ∧
      (locksOut (pushTrip (s.slot i).history s.seconds) = true →
        Category.lockout.within (s.trip i cause).fault.heldSet = true) := by
  rw [State.trip, if_pos running]
  dsimp only
  split
  · exact ⟨State.raise_keeps_held _ _ _ (State.raise_holds _ _), fun _ => State.raise_holds _ _⟩
  · rename_i h
    exact ⟨State.raise_holds _ _, fun locks => absurd locks h⟩

/-- R152: a trip at the end of its event. -/
theorem State.tripTaken_settled {s t : State} {i : Slot} {cause : Category}
    (rests : t.Rests i { s.trippedStage i with prove := none })
    (held : cause.within t.fault.heldSet = true)
    (locked : locksOut (pushTrip (s.slot i).history s.seconds) = true →
      Category.lockout.within t.fault.heldSet = true) (before : State) :
    s.tripTaken (t.settleInto before) i cause := by
  have state := s.trippedStage_state i
  have running : (s.trippedStage i).state.running = false := by
    rcases state with h | h <;> rw [h] <;> rfl
  have ready : (s.trippedStage i).state ≠ .ready := by
    rcases state with h | h <;> rw [h] <;> nofun
  obtain ⟨slot, order⟩ := rests.settleInto running ready before
  refine ⟨?_, order, ?_, ?_, ?_⟩
  · rw [slot, State.trippedStage]
    dsimp only
    split <;> rfl
  · rw [State.settleInto_stagePin, State.isRunning_of_slot slot]
    exact running
  · exact State.settleInto_holds before held
  · exact fun h => State.settleInto_holds before (locked h)

end Sys2Proof.Machine

/-! # What the evaluations of one event form alike (R108 to R111, R126) -/

namespace Sys2Proof.Machine

/-! ## Properties of the mode that every formation brings about -/

/-- A property of the mode that a plain evaluation brings about wherever the blocks outside the plant are
those of `s`, and that changeover timers and the mode of a grant leave alone. -/
structure State.Forms (s : State) (R : ModeLogic → Prop) : Prop where
  form : ∀ t : State, s.stageFrame t → R (t.formMode .plain)
  changeover : ∀ (m : ModeLogic) (d : Side), R m → R (m.loadChangeover d)
  grant : ∀ (m : ModeLogic) (u : UnitMode), R m → R { m with mode := u, fullOpen := .stopped }

namespace State.Forms

variable {s : State} {R : ModeLogic → Prop}

theorem evaluateOnce (k : s.Forms R) {t : State} (h : s.stageFrame t) :
    R (t.evaluateOnce .plain).mode := by
  rw [State.evaluateOnce_mode]
  exact k.form t h

theorem reportStages (k : s.Forms R) {t : State} (before : State) (h : R t.mode) :
    R (t.reportStages before).mode := by
  unfold State.reportStages
  dsimp only
  repeat' split
  all_goals
    try rw [State.requestState_mode]
    first
      | exact h
      | exact k.changeover _ _ h
      | exact k.changeover _ _ (k.changeover _ _ h)

/-- The frame and the property together. -/
def Held (s : State) (R : ModeLogic → Prop) (t : State) : Prop := s.stageFrame t ∧ R t.mode

theorem reportMove (k : s.Forms R) {t : State} (before : State) (h : Held s R t) :
    Held s R (t.reportMove before) := by
  refine ⟨State.stageFrame_trans h.1 (t.reportMove_frame before), ?_⟩
  unfold State.reportMove
  split
  · exact h.2
  · exact k.evaluateOnce (State.stageFrame_trans h.1 (t.reportStages_frame before))

theorem stops (k : s.Forms R) (l : List Slot) {t : State} (h : Held s R t) :
    Held s R (t.moveEach State.stopSlot l) := by
  induction l generalizing t with
  | nil => exact h
  | cons i rest ih =>
    rw [State.moveEach_cons]
    refine ih (k.reportMove t ⟨State.stageFrame_trans h.1 (t.stopSlot_frame i), ?_⟩)
    rw [State.stopSlot_mode]
    exact h.2

theorem serveWanted (k : s.Forms R) (fuel : Nat) :
    ∀ (tested : ModeLogic) (t : State), Held s R t → Held s R (State.serveWanted fuel tested t) := by
  induction fuel with
  | zero => exact fun _ _ h => h
  | succ n ih =>
    intro tested t h
    unfold State.serveWanted
    split
    · exact h
    · exact ih _ _ (k.stops _ h)

theorem evaluate (k : s.Forms R) : Held s R s.evaluate :=
  k.serveWanted 4 _ _ ⟨s.evaluateOnce_frame .plain, k.evaluateOnce ⟨rfl, rfl⟩⟩

theorem grantMode (k : s.Forms R) {t : State} (m : Intended) (h : R t.mode) :
    R (t.grantMode m).mode := by
  have set (u : UnitMode) : R (if t.mode.mode = u then t
      else State.requestState { t with mode.mode := u, mode.fullOpen := .stopped }).mode := by
    split
    · exact h
    · rw [State.requestState_mode]
      exact k.grant _ u h
  cases m with
  | none => exact h
  | cool => exact set .cool
  | heat => exact set .heat

theorem decision (k : s.Forms R) {t u : State} {i : Slot} (h : Held s R t) (d : t.Decision i u) :
    Held s R u := by
  refine ⟨State.stageFrame_trans h.1 d.frame, ?_⟩
  cases d with
  | claim level headroom => simpa [State.openClaim, State.judged, State.setSlot] using h.2
  | shed level headroom needed => simpa [State.callShed, State.judged] using h.2
  | denied level headroom => exact h.2
  | granted level headroom mode =>
    rw [State.grant]
    refine k.grantMode mode ?_
    rw [State.startSlot_eq]
    exact h.2

theorem settleInto (k : s.Forms R) {t : State} (before : State) (h : Held s R t) :
    R (t.settleInto before).mode := by
  have selected : Held s R t.select := ⟨State.stageFrame_trans h.1 t.select_frame, h.2⟩
  have taken : Held s R t.select.takeRequest := by
    rcases t.select.takeRequest_decides with same | ⟨i, _, _, _, d⟩
    · rw [same]
      exact selected
    · exact k.decision selected d
  have moved : Held s R (t.select.takeRequest.stagesMoved t.select) :=
    k.serveWanted 4 _ _ (k.reportMove _ taken)
  rw [State.settleInto_mode, State.settleStarts, State.reportOffer]
  split
  · exact moved.2
  · rw [State.requestState_mode]
    exact moved.2

/-- A property that every evaluation forms holds at the end of an event that begins with one. -/
theorem evaluated (k : s.Forms R) (before : State) : R (s.evaluate.settleInto before).mode :=
  k.settleInto before k.evaluate

end State.Forms

end Sys2Proof.Machine

/-! # Samples of the safety inputs, delivered (R111, R126, R127, R153, R183 to R185) -/

namespace Sys2Proof.Machine

/-! ## What a plain evaluation leaves of the demand and the calls -/

/-- Zone temperature, side, level, calls, fan command and off-delay are the same. -/
structure ModeLogic.SameCalls (a b : ModeLogic) : Prop where
  zoneTemp : b.zoneTemp = a.zoneTemp := by rfl
  side : b.side = a.side := by rfl
  level : b.level = a.level := by rfl
  cool1 : b.cool1 = a.cool1 := by rfl
  cool2 : b.cool2 = a.cool2 := by rfl
  heat1 : b.heat1 = a.heat1 := by rfl
  heat2 : b.heat2 = a.heat2 := by rfl
  fan : b.fan = a.fan := by rfl
  offDelay : b.offDelay = a.offDelay := by rfl

theorem ModeLogic.SameCalls.trans {a b c : ModeLogic} (h : a.SameCalls b) (k : b.SameCalls c) :
    a.SameCalls c :=
  ⟨k.zoneTemp.trans h.zoneTemp, k.side.trans h.side, k.level.trans h.level, k.cool1.trans h.cool1,
    k.cool2.trans h.cool2, k.heat1.trans h.heat1, k.heat2.trans h.heat2, k.fan.trans h.fan,
    k.offDelay.trans h.offDelay⟩

theorem State.yieldEnd_sameCalls (s : State) (m : ModeLogic) : m.SameCalls (s.yieldEnd m) := by
  unfold State.yieldEnd
  split
  · exact {}
  · split
    · split <;> exact {}
    · exact {}

theorem State.formUnitMode_sameCalls (s : State) (m : ModeLogic) :
    m.SameCalls (s.formUnitMode m) := by
  unfold State.formUnitMode
  split
  · split
    · split
      · exact {}
      · split <;> exact {}
    · split <;> exact {}
    · split <;> exact {}
    · split <;> exact {}
    · split <;> exact {}
  · exact {}

/-- R108: the mode with its wanted counts, before the fan is formed. -/
def State.aimed (s : State) : ModeLogic := s.formWanted (s.formUnitMode (s.yieldEnd s.formed))

theorem State.aimed_sameCalls (s : State) : s.formed.SameCalls s.aimed :=
  ((s.yieldEnd_sameCalls _).trans (s.formUnitMode_sameCalls _)).trans {}

theorem State.formMode_plain {s : State} (h : s.station.state ≠ .config) :
    s.formMode .plain = s.formDamper (s.formFan .plain s.aimed).name := by
  simp only [State.formMode, if_neg h, reduceCtorEq, if_false]
  rfl

/-- What the fan, the name of the mode and the damper leave of it. -/
theorem ModeLogic.name_eq (m : ModeLogic) : m.name = { m with mode := m.name.mode } := by
  unfold ModeLogic.name
  split <;> rfl

theorem State.formFan_eq (s : State) (cause : EvalCause) (m : ModeLogic) :
    s.formFan cause m =
      { m with fan := (s.formFan cause m).fan, offDelay := (s.formFan cause m).offDelay } := by
  unfold State.formFan
  repeat' split
  all_goals rfl

/-- A plain evaluation beyond the counts: the fan, the name of the mode and the damper. -/
theorem State.formMode_eq {s : State} (h : s.station.state ≠ .config) :
    s.formMode .plain = { s.aimed with
      fan := (s.formFan .plain s.aimed).fan
      offDelay := (s.formFan .plain s.aimed).offDelay
      mode := (s.formFan .plain s.aimed).name.mode
      damperTarget := (s.formMode .plain).damperTarget
      damper := (s.formMode .plain).damper
      fullOpen := (s.formMode .plain).fullOpen } := by
  have fan := s.formFan_eq .plain s.aimed
  rw [State.formMode_plain h]
  generalize s.formFan .plain s.aimed = f at *
  have name := f.name_eq
  generalize f.name = n at *
  have damper (m : ModeLogic) : s.formDamper m = { m with
      damperTarget := (s.formDamper m).damperTarget, damper := (s.formDamper m).damper
      fullOpen := (s.formDamper m).fullOpen } := rfl
  have counts : n = { s.aimed with fan := f.fan, offDelay := f.offDelay, mode := n.mode } := by
    rw [name, fan]
  rw [damper]
  generalize s.formDamper n = d
  rw [counts]

/-- R109, R111: zone temperature and demand side after a plain evaluation. -/
theorem State.formMode_demand {s : State} (h : s.station.state ≠ .config) :
    (s.formMode .plain).zoneTemp = s.zoneReading.1 ∧
      (s.formMode .plain).side = (demandOf (s.zoneReading.1.map fun t => t - s.coolSetpoint)
        (s.zoneReading.1.map fun t => s.heatSetpoint - t)).1 := by
  rw [State.formMode_eq h]
  exact ⟨s.aimed_sameCalls.zoneTemp, s.aimed_sameCalls.side⟩

/-- R126: an occupied zone keeps the fan on in the working states. -/
theorem State.formMode_occupied {s : State} (h : s.station.state.working = true)
    (occupied : s.occupied = true) :
    (s.formMode .plain).fan = true ∧ (s.formMode .plain).offDelay = none := by
  have fan : s.formFan .plain s.aimed = { s.aimed with fan := true, offDelay := none } := by
    rw [State.formFan, if_pos h, if_pos (by simp [State.fanDemand, occupied])]
  rw [State.formMode_eq (by rintro hc; rw [hc] at h; cases h), fan]
  exact ⟨rfl, rfl⟩

/-- R112: the demand side by the setpoints in force. -/
theorem demandOf_side (z c h : Int) :
    (demandOf (some (z - c)) (some (h - z))).1 =
      if c < z then .cooling else if z < h then .heating else .none := by
  unfold demandOf
  simp only [sub_pos]
  split
  · rfl
  · split <;> rfl

/-! ## A satisfied zone (R115, R127) -/

theorem callOf_satisfied {before : Bool} {e : Option Int} {setAt clearAt : Int}
    (h : ∀ v ∈ e, v ≤ 0) (hs : 0 < setAt) (hc : 0 ≤ clearAt) :
    callOf before e setAt clearAt = false := by
  unfold callOf
  cases e with
  | none => rfl
  | some v =>
    have := h v rfl
    dsimp only
    rw [if_neg (by omega), if_pos (by omega)]

/-- With no error on either side no call stands. -/
theorem State.formed_satisfied {s : State} (cool : ∀ z ∈ s.zoneReading.1, z ≤ s.coolSetpoint)
    (heat : ∀ z ∈ s.zoneReading.1, s.heatSetpoint ≤ z) :
    s.formed.cool1 = false ∧ s.formed.cool2 = false ∧ s.formed.heat1 = false ∧
      s.formed.heat2 = false := by
  have eCool : ∀ v ∈ s.zoneReading.1.map (fun t => t - s.coolSetpoint), v ≤ 0 := by
    intro v hv
    obtain ⟨z, hz, rfl⟩ := Option.mem_map.1 hv
    have := cool z hz
    omega
  have eHeat : ∀ v ∈ s.zoneReading.1.map (fun t => s.heatSetpoint - t), v ≤ 0 := by
    intro v hv
    obtain ⟨z, hz, rfl⟩ := Option.mem_map.1 hv
    have := heat z hz
    omega
  exact ⟨callOf_satisfied eCool (by decide) (by decide), callOf_satisfied eCool (by decide) (by decide),
    callOf_satisfied eHeat (by decide) (by decide), callOf_satisfied eHeat (by decide) (by decide)⟩

end Sys2Proof.Machine

namespace Sys2Proof.Machine

/-! ## A vacant, satisfied zone (R127) -/

/-- R120: without the first cooling call the economizer is not entered and does not stand. -/
theorem State.formUnitMode_not_econ (s : State) {m : ModeLogic} (h : m.cool1 = false) :
    (s.formUnitMode m).mode ≠ .econ := by
  have entry : s.econEntry m = false := by simp [State.econEntry, h]
  unfold State.formUnitMode
  split
  · split
    · simp [h]
    · split
      · nofun
      · rename_i hm _
        simp [hm]
    · split
      · nofun
      · rename_i hm _
        simp [hm]
    · rename_i hm
      simp [entry, hm]
    · rename_i hm
      simp [entry, hm]
  · nofun

/-- R116: no count is wanted on a side without calls. -/
theorem State.wantedOf_none (s : State) (m : ModeLogic) (d : Side) : s.wantedOf m d false false = 0 := by
  unfold State.wantedOf
  split <;> rfl

theorem State.Quiet.needsNoFan {s : State} (h : s.Quiet) : s.stageNeedsFan = false := by
  rw [State.stageNeedsFan, List.any_eq_false]
  intro i _
  simp [(h i).1, (h i).2]

/-- R126, R127: with nothing wanted in a vacant zone the fan runs on under its off-delay. -/
theorem State.formMode_satisfied {s : State} (working : s.station.state.working = true)
    (vacant : s.occupied = false) (quiet : s.Quiet) (fan : s.mode.fan = true)
    (calls : s.formed.cool1 = false ∧ s.formed.cool2 = false ∧ s.formed.heat1 = false ∧
      s.formed.heat2 = false) :
    (s.formMode .plain).fan = true ∧
      (s.formMode .plain).offDelay = some (s.mode.offDelay.getD offDelayTime) ∧
      (s.formMode .plain).wantedCool = 0 ∧ (s.formMode .plain).wantedHeat = 0 := by
  obtain ⟨cool1, cool2, heat1, heat2⟩ := calls
  have same := (s.yieldEnd_sameCalls s.formed).trans (s.formUnitMode_sameCalls _)
  have aimedFan : s.aimed.fan = true := s.aimed_sameCalls.fan.trans fan
  have aimedDelay : s.aimed.offDelay = s.mode.offDelay := s.aimed_sameCalls.offDelay
  have econ : s.aimed.mode ≠ .econ :=
    s.formUnitMode_not_econ ((s.yieldEnd_sameCalls s.formed).cool1.trans cool1)
  have wantedCool : s.aimed.wantedCool = 0 := by
    show s.wantedOf _ .cooling _ _ = 0
    rw [same.cool1, same.cool2, cool1, cool2, State.wantedOf_none]
  have wantedHeat : s.aimed.wantedHeat = 0 := by
    show s.wantedOf _ .heating _ _ = 0
    rw [same.heat1, same.heat2, heat1, heat2, State.wantedOf_none]
  have demand : s.fanDemand s.aimed = false := by
    simp [State.fanDemand, vacant, wantedCool, wantedHeat, quiet.needsNoFan, econ]
  have formed : s.formFan .plain s.aimed =
      { s.aimed with offDelay := some (s.mode.offDelay.getD offDelayTime) } := by
    rw [State.formFan, if_pos working, if_neg (by simp [demand]), if_pos aimedFan,
      if_neg (by nofun), aimedDelay]
  rw [State.formMode_eq (by rintro hc; rw [hc] at working; cases working), formed]
  exact ⟨aimedFan, rfl, wantedCool, wantedHeat⟩

/-! ## The selection at the end of an event -/

/-- A STATE request writes the link alone. -/
theorem State.requestState_eq (s : State) (roll : Bool) :
    s.requestState roll = { s with link := (s.requestState roll).link } := by
  unfold State.requestState
  split <;> rfl

theorem State.selectionLaw_select (s : State) : s.select.selectionLaw := by
  obtain ⟨presented, unpresented⟩ := s.select_presented
  refine ⟨fun i hi => ?_, fun none i => ?_⟩
  · have h := presented i hi
    simp only [State.selectable, Bool.and_eq_true, beq_iff_eq, decide_eq_true_eq,
      Option.isNone_iff_eq_none, List.all_eq_true, bne_iff_ne] at h
    obtain ⟨⟨⟨⟨wanted, ready⟩, free⟩, locks⟩, unclaimed⟩ := h
    exact ⟨wanted, ready, free, locks, fun j => unclaimed j (mem_allSlots j)⟩
  · rw [State.selectable_select]
    exact unpresented none i

/-- R141: every event of the plant ends with a selection. -/
theorem State.settleInto_selects (s before : State) : (s.settleInto before).selectionLaw := by
  have served : s.serveStarts.selectionLaw := State.selectionLaw_select _
  generalize hv : s.serveStarts = v at served
  have reported : (v.reportOffer before).selectionLaw := by
    rw [State.reportOffer]
    split
    · exact served
    · rw [State.requestState_eq]
      exact served
  rw [State.settleInto, State.settleStarts, hv]
  exact reported

/-- With no slot selectable the end of an event takes no start. -/
theorem State.settleInto_unselected {s : State} (before : State)
    (h : ∀ i, s.selectable i = false) : (s.settleInto before).mode = s.mode := by
  have none : s.select.stage.presented = none := by
    cases hp : s.select.stage.presented with
    | none => rfl
    | some i => exact absurd (s.select_presented.1 i hp) (by simp [h i])
  have idle : s.select.takeRequest = s.select := by
    rw [State.takeRequest, none]
  have served : s.serveStarts.mode = s.mode := by
    rw [State.serveStarts, idle, State.stagesMoved_same rfl]
    rfl
  rw [State.settleInto_mode, State.settleStarts, State.reportOffer]
  split
  · exact served
  · rw [State.requestState_mode, served]

/-- R127: OCC clearing over a satisfied zone leaves the fan on under its off-delay. -/
theorem State.evaluate_satisfied {s : State} (before : State)
    (working : s.station.state.working = true) (vacant : s.occupied = false) (quiet : s.Quiet)
    (fan : s.mode.fan = true)
    (calls : s.formed.cool1 = false ∧ s.formed.cool2 = false ∧ s.formed.heat1 = false ∧
      s.formed.heat2 = false) :
    (s.evaluate.settleInto before).mode.fan = true ∧
      (s.evaluate.settleInto before).mode.offDelay =
        some (s.mode.offDelay.getD offDelayTime) := by
  obtain ⟨fanOn, offDelay, cool, heat⟩ := State.formMode_satisfied working vacant quiet fan calls
  have mode : s.evaluate.mode = s.formMode .plain := by
    rw [State.evaluate_idle .plain fun i => State.not_runFree (quiet i).1, State.evaluateOnce_mode]
  have unselected (i : Slot) : s.evaluate.selectable i = false := by
    have wanted : s.evaluate.wanted (sideOf i) = 0 := by
      cases sideOf i with
      | cooling => exact (congrArg ModeLogic.wantedCool mode).trans cool
      | heating => exact (congrArg ModeLogic.wantedHeat mode).trans heat
    rw [State.selectable, wanted]
    simp
  rw [State.settleInto_unselected before unselected, mode]
  exact ⟨fanOn, offDelay⟩

/-! ## Deliveries -/

theorem State.stageFrame_inputs {s t : State} {x : PerInput Input}
    (h : ({ s with inputs := x } : State).stageFrame t) :
    s.stageFrame { t with inputs := s.inputs } :=
  ⟨by rw [h.1], h.2⟩

theorem State.setInput_accepted (s : State) (r : InputRole) (i : Input) :
    (s.setInput r i).accepted r = i.accepted := by
  show ((s.inputs.set r i).get r).accepted = i.accepted
  rw [PerInput.get_set_self]

/-- R153: what a high-pressure input leaves at the end of its event. -/
structure State.PressedBy (s : State) (i : Slot) (cause : Category) (t : State) : Prop where
  tripped : s.isRunning i = true → s.tripTaken t i cause
  raised : s.isRunning i = false →
    t.fault = (s.raise cause).fault ∧ (s.startsHeld = true → t.stage.slots = s.stage.slots)
  held : cause.within t.fault.heldSet = true
  frame : s.stageFrame t

theorem State.highPressure_settled (s before : State) (n : Circuit) (cause : Category) :
    s.PressedBy (slotOfCircuit n) cause
      (((s.highPressure n cause).stagesMoved s).settleInto before) := by
  rw [State.highPressure]
  by_cases running : s.isRunning (slotOfCircuit n) = true
  · rw [if_pos running]
    have rests := State.trip_rests running cause
    obtain ⟨held, locked⟩ := State.trip_holds running cause
    have frame := s.trip_frame (slotOfCircuit n) cause
    generalize s.trip (slotOfCircuit n) cause = u at *
    have moved := u.stagesMoved_frame s
    have fault := u.stagesMoved_fault s
    have stopped : (s.trippedStage (slotOfCircuit n)).state.running = false := by
      rcases s.trippedStage_state (slotOfCircuit n) with h | h <;> rw [h] <;> rfl
    have rests := State.stagesMoved_keeps (State.rests_keeps
      (r := { s.trippedStage (slotOfCircuit n) with prove := none }) stopped) u s rests
    rw [← fault] at held locked
    generalize u.stagesMoved s = v at *
    have taken := State.tripTaken_settled rests held locked before
    exact
      { tripped := fun _ => taken
        raised := fun h => absurd running (by simp [h])
        held := State.settleInto_holds before held
        frame := State.stageFrame_trans (State.stageFrame_trans frame moved)
          (State.settleInto_frame v before) }
  · rw [if_neg running]
    have same : (s.raise cause).stageStates = s.stageStates := by
      rw [State.raise_eq]
      rfl
    have held := s.raise_holds cause
    have frame := s.raise_frame cause
    have raised := s.raise_eq cause
    rw [State.stagesMoved_same same]
    generalize hu : s.raise cause = u at *
    exact
      { tripped := fun h => absurd h running
        raised := fun _ => ⟨by rw [State.settleInto_fault, hu], fun h => by
          have starts : u.startsHeld = true := by
            rw [raised]
            exact h
          obtain ⟨_, _, stage⟩ := State.settleInto_plant before starts
          rw [stage, raised]⟩
        held := State.settleInto_holds before held
        frame := State.stageFrame_trans frame (State.settleInto_frame u before) }

/-- A raise records nothing of the inputs. -/
theorem State.raise_inputs_fault (s : State) (x : PerInput Input) (c : Category) :
    (({ s with inputs := x } : State).raise c).fault = (s.raise c).fault := by
  have snapshot : State.snapshot { s with inputs := x } c = s.snapshot c := rfl
  rw [State.raise, State.raise]
  dsimp only
  rw [snapshot]
  split
  · rfl
  · split <;> rfl

/-- R153: HP1 and HP2 ACTIVATED. -/
theorem State.pressed {s : State} {n : Circuit} {r : InputRole} {cause : Category} {pinHigh : Bool}
    (own : (n = .one ∧ r = .hp1 ∧ cause = .hp1) ∨ (n = .two ∧ r = .hp2 ∧ cause = .hp2))
    (h : s.accepts r pinHigh true = true) :
    ∃ t, exec (.inputSample r pinHigh) s = .next t ∧
      (s.isRunning (slotOfCircuit n) = true → s.tripTaken t (slotOfCircuit n) cause) ∧
      (s.isRunning (slotOfCircuit n) = false →
        t.fault = (s.raise cause).fault ∧
          (s.startsHeld = true → t.stage.slots = s.stage.slots)) ∧
      cause.within t.fault.heldSet = true ∧ s.stageFrame { t with inputs := s.inputs } := by
  have runs := State.accepts_runs h
  generalize (s.sampled r pinHigh).1 = i at runs
  have delivered : (s.setInput r i).deliverInput r (if (true : Bool) = true then .activated
      else .deactivated) =
      ((s.setInput r i).highPressure n cause).stagesMoved (s.setInput r i) := by
    rcases own with ⟨rfl, rfl, rfl⟩ | ⟨rfl, rfl, rfl⟩ <;> rfl
  have silent : inputCategory r = none := by
    rcases own with ⟨_, rfl, _⟩ | ⟨_, rfl, _⟩ <;> rfl
  rw [State.raiseInput_none (.inr silent), ← State.settleInto, delivered] at runs
  have p := (s.setInput r i).highPressure_settled s n cause
  generalize State.settleInto _ _ = t at *
  refine ⟨t, runs, p.tripped, fun hr => ?_, p.held, State.stageFrame_inputs p.frame⟩
  obtain ⟨fault, slots⟩ := p.raised hr
  exact ⟨fault.trans (s.raise_inputs_fault _ cause), slots⟩

end Sys2Proof.Machine

namespace Sys2Proof.Machine

/-! ## An input that reaches no block -/

/-- A sample that reaches no block but for what it raises, at the end of its event. -/
structure State.HeardOnly (s : State) (r : InputRole) (a : Accepted) (t : State) : Prop where
  accepted : t.accepted r = a
  frame : s.stageFrame { t with inputs := s.inputs }
  held : s.startsHeld = true → t.stage = { s.stage with presented := t.stage.presented } ∧
    t.adm = s.adm ∧ t.mode = s.mode ∧ t.link = s.link

theorem State.setInput_heardOnly (s : State) (r : InputRole) (i : Input) :
    s.HeardOnly r i.accepted ((s.setInput r i).settleInto s) := by
  have frame := State.settleInto_frame (s.setInput r i) s
  have accepted := s.setInput_accepted r i
  have held (h : s.startsHeld = true) := State.settleInto_held (s := s.setInput r i) (before := s) h rfl
  generalize State.settleInto _ _ = t at *
  refine ⟨?_, State.stageFrame_inputs frame, fun h => ?_⟩
  · rw [← accepted, State.accepted, State.input, frame.inputs_eq]
    rfl
  · rw [held h]
    exact ⟨rfl, rfl, rfl, rfl⟩

theorem State.setInput_raised (s : State) (r : InputRole) (i : Input) (c : Category) :
    s.HeardOnly r i.accepted ((s.setInput r i).settleRaised s c) := by
  have quiet := s.setInput_heardOnly r i
  have raised := (s.setInput r i).settleRaised_eq s c
  generalize (s.setInput r i).settleRaised s c = t at *
  generalize State.settleInto _ _ = w at *
  refine ⟨?_, ?_, fun h => ?_⟩
  · rw [← quiet.accepted, raised]
    rfl
  · rw [raised]
    exact State.stageFrame_trans quiet.frame ⟨rfl, rfl⟩
  · obtain ⟨stage, adm, mode, link⟩ := quiet.held h
    rw [raised]
    exact ⟨stage, adm, mode, link⟩

/-- The frame of SMOKE and its entry, seen from before the sample. -/
theorem State.entryFrame_sampled {s t : State} {x : PerInput Input}
    (h : ({ s with inputs := x } : State).entryFrame t) :
    t = { s with
      inputs := t.inputs, station := t.station, link := t.link, adm := t.adm, mode := t.mode
      stage := t.stage, fault := t.fault, pins := t.pins } := by
  unfold State.entryFrame at h
  rw [h]

theorem State.entryFrame_accepted {s t : State} {r : InputRole} {i : Input}
    (h : (s.setInput r i).entryFrame t) : t.accepted r = i.accepted := by
  rw [← s.setInput_accepted r i, State.accepted, State.accepted, State.input, State.input]
  rw [h]

theorem State.settleRaised_entryFrame (s before : State) (c : Category) :
    s.entryFrame (s.settleRaised before c) := by
  have settled := (State.settleInto_frame s before).entryFrame
  have raised := s.settleRaised_eq before c
  generalize s.settleRaised before c = t at *
  generalize s.settleInto before = w at *
  have moved : w.entryFrame t := by
    unfold State.entryFrame
    rw [raised]
  exact State.entryFrame_trans settled moved

/-! ## SMOKE -/

/-- R21: SMOKE ACTIVATED in a working state. -/
theorem State.smokeActivated {s : State} {pinHigh : Bool} (h : s.accepts .smoke pinHigh true = true)
    (working : s.station.state.working = true) :
    ∃ i t, exec (.inputSample .smoke pinHigh) s = .next t ∧ (s.setInput .smoke i).ShutBy t := by
  have runs := State.accepts_runs h
  generalize (s.sampled .smoke pinHigh).1 = i at runs
  have delivered : (s.setInput .smoke i).deliverInput .smoke (if (true : Bool) = true then .activated
      else .deactivated) = (s.setInput .smoke i).enterShutdown :=
    if_pos (c := (s.setInput .smoke i).station.state.working = true) working
  rw [State.raiseInput_own (c := .smoke) rfl rfl, delivered, ← State.settleRaised] at runs
  exact ⟨i, _, runs, State.shutBy _ s⟩

/-- R183, R185: SMOKE first accepted, as ACTIVE. -/
theorem State.smokeSettles {s : State} {pinHigh : Bool} (h : s.settles .smoke pinHigh true = true) :
    ∃ i t, exec (.inputSample .smoke pinHigh) s = .next t ∧ i.accepted = .active ∧
      Category.smoke.within t.fault.heldSet = true ∧ (s.setInput .smoke i).entryFrame t ∧
      (s.station.state.working = true → (s.setInput .smoke i).ShutBy t) ∧
      (s.station.state.working = false →
        s.HeardOnly .smoke .active t ∧ t.station = s.station ∧ s.link.sameButQueue t.link) := by
  have runs := State.settles_runs h
  have accepted := (State.sampled_settles h).2
  generalize (s.sampled .smoke pinHigh).1 = i at *
  rw [State.raiseInput_own (c := .smoke) rfl rfl] at runs
  by_cases working : s.station.state.working = true
  · have delivered : (s.setInput .smoke i).deliverInput .smoke (.settled true) =
        (s.setInput .smoke i).enterShutdown :=
      if_pos (c := (s.setInput .smoke i).station.state.working = true) working
    rw [delivered, ← State.settleRaised] at runs
    have shut := State.shutBy (s.setInput .smoke i) s
    exact ⟨i, _, runs, accepted, shut.held, shut.frame, fun _ => shut,
      fun off => absurd working (by simp [off])⟩
  · have delivered : (s.setInput .smoke i).deliverInput .smoke (.settled true) =
        s.setInput .smoke i :=
      if_neg (c := (s.setInput .smoke i).station.state.working = true) working
    rw [delivered, ← State.settleRaised] at runs
    have heard := s.setInput_raised .smoke i .smoke
    have held := State.settleRaised_holds (s.setInput .smoke i) s .smoke
    have frame := (s.setInput .smoke i).settleRaised_entryFrame s .smoke
    rw [accepted] at heard
    generalize State.settleRaised _ _ _ = t at *
    exact ⟨i, t, runs, accepted, held, frame, fun on => absurd on working,
      fun _ => ⟨heard, heard.frame.station_eq, heard.frame.2⟩⟩

/-! ## OCC -/

/-- R111: OCC accepted anew brings an evaluation. -/
theorem State.occSampled {s : State} {pinHigh active : Bool}
    (h : s.accepts .occ pinHigh active = true) :
    ∃ i, i.accepted = acceptedOf active ∧ exec (.inputSample .occ pinHigh) s =
      .next ((s.setInput .occ i).evaluate.settleInto s) := by
  have runs := State.accepts_runs h
  have accepted := (State.sampled_accepts h).2
  generalize (s.sampled .occ pinHigh).1 = i at *
  have delivered : (s.setInput .occ i).deliverInput .occ (if active = true then .activated
      else .deactivated) = (s.setInput .occ i).evaluate := by
    cases active <;> rfl
  rw [State.raiseInput_none (.inr rfl), ← State.settleInto, delivered] at runs
  exact ⟨i, accepted, runs⟩

theorem State.working_not_config {s : State} (h : s.station.state.working = true) :
    s.station.state ≠ .config := by
  rintro hc
  rw [hc] at h
  cases h

/-- R109, R111: every evaluation of an event forms the same zone temperature and side. -/
theorem State.demand_forms {s : State} (h : s.station.state ≠ .config) :
    s.Forms (fun m => m.zoneTemp = s.zoneReading.1 ∧
      m.side = (demandOf (s.zoneReading.1.map fun t => t - s.coolSetpoint)
        (s.zoneReading.1.map fun t => s.heatSetpoint - t)).1) where
  form t f := by
    have zone : t.zoneReading = s.zoneReading := by
      rw [f.1]
      rfl
    have cool : t.coolSetpoint = s.coolSetpoint := by
      rw [f.1]
      rfl
    have heat : t.heatSetpoint = s.heatSetpoint := by
      rw [f.1]
      rfl
    rw [← zone, ← cool, ← heat]
    exact State.formMode_demand (by rw [f.station_eq]; exact h)
  changeover _ _ h := h
  grant _ _ h := h

/-- R126: every evaluation of an event over an occupied zone forms the fan on. -/
theorem State.fan_forms {s : State} (working : s.station.state.working = true)
    (occupied : s.occupied = true) : s.Forms (fun m => m.fan = true ∧ m.offDelay = none) where
  form t f := by
    refine State.formMode_occupied (by rw [f.station_eq]; exact working) ?_
    rw [← occupied, f.1]
    rfl
  changeover _ _ h := h
  grant _ _ h := h

theorem State.settleInto_fanPin (s before : State) :
    (s.settleInto before).pins.fan = (s.settleInto before).mode.fan := by
  rw [State.settleInto_pins]
  rfl

/-- What OCC accepted as `active` leaves of the mode. -/
theorem State.occEvaluated {s : State} {i : Input} {active : Bool} (before : State) {c h : Int}
    (accepted : i.accepted = acceptedOf active) (config : s.station.state ≠ .config)
    (hc : c = s.cfg.coolSetpoint + (if active = true then 0 else s.cfg.setback))
    (hh : h = s.cfg.heatSetpoint - (if active = true then 0 else s.cfg.setback)) :
    let t := (s.setInput .occ i).evaluate.settleInto before
    t.mode.zoneTemp = s.zoneReading.1 ∧
      (∀ z ∈ t.mode.zoneTemp,
        t.mode.side = if c < z then .cooling else if z < h then .heating else .none) ∧
      (active = true → s.station.state.working = true →
        t.mode.fan = true ∧ t.mode.offDelay = none ∧ t.pins.fan = true) ∧
      (active = false → s.station.state.working = true → s.mode.fan = true →
        (s.zoneReading.1 = none ∨ ∃ z ∈ s.zoneReading.1, h ≤ z ∧ z ≤ c) →
        (∀ i : Slot, s.isRunning i = false ∧ s.stageState i ≠ .claimed) →
        t.mode.fan = true ∧ t.mode.offDelay = some (s.mode.offDelay.getD 60000)) := by
  have occupied : (s.setInput .occ i).occupied = active := by
    rw [State.occupied, State.setInput_accepted, accepted]
    cases active <;> rfl
  have cool : (s.setInput .occ i).coolSetpoint = c := by
    rw [State.coolSetpoint, occupied, hc]
    cases active
    · rfl
    · exact (Int.add_zero _).symm
  have heat : (s.setInput .occ i).heatSetpoint = h := by
    rw [State.heatSetpoint, occupied, hh]
    cases active
    · rfl
    · exact (Int.sub_zero _).symm
  have zone : (s.setInput .occ i).zoneReading = s.zoneReading := rfl
  have demand := (State.demand_forms (s := s.setInput .occ i) config).evaluated before
  rw [zone, cool, heat] at demand
  refine ⟨demand.1, fun z hz => ?_, fun on working => ?_, fun off working fan satisfied quiet => ?_⟩
  · rw [demand.2, show s.zoneReading.1 = some z from demand.1.symm.trans hz]
    exact demandOf_side z c h
  · obtain ⟨fan, offDelay⟩ := (State.fan_forms (s := s.setInput .occ i) working
      (occupied.trans on)).evaluated before
    exact ⟨fan, offDelay, (State.settleInto_fanPin _ before).trans fan⟩
  · refine State.evaluate_satisfied (s := s.setInput .occ i) before working (occupied.trans off)
      quiet fan (State.formed_satisfied ?_ ?_)
    · rw [zone, cool]
      rintro z hz
      rcases satisfied with none | ⟨y, hy, _, le⟩
      · rw [none] at hz
        cases hz
      · rw [Option.mem_unique hz hy]
        exact le
    · rw [zone, heat]
      rintro z hz
      rcases satisfied with none | ⟨y, hy, le, _⟩
      · rw [none] at hz
        cases hz
      · rw [Option.mem_unique hz hy]
        exact le

/-! ## The inputs together -/

/-- FILTER at either acceptance is raised after the handling of the blocks. -/
theorem State.filterSampled {s : State} {pinHigh : Bool}
    (h : s.accepts .filter pinHigh true = true ∨ s.settles .filter pinHigh true = true) :
    ∃ i, i.accepted = .active ∧ exec (.inputSample .filter pinHigh) s =
      .next ((s.setInput .filter i).settleRaised s .filter) := by
  rcases h with h | h
  · exact ⟨_, (State.sampled_accepts h).2, State.accepts_runs h⟩
  · exact ⟨_, (State.sampled_settles h).2, State.settles_runs h⟩

/-- Any other first acceptance reaches no block and raises nothing. -/
theorem State.quietSettles {s : State} {r : InputRole} {pinHigh active : Bool}
    (h : s.settles r pinHigh active = true) (own : active = false ∨ (r ≠ .smoke ∧ r ≠ .filter)) :
    ∃ i, i.accepted = acceptedOf active ∧ exec (.inputSample r pinHigh) s =
      .next ((s.setInput r i).settleInto s) := by
  have runs := State.settles_runs h
  have accepted := (State.sampled_settles h).2
  generalize (s.sampled r pinHigh).1 = i at *
  have silent : (InputEvent.settled active).raises = false ∨ inputCategory r = none := by
    rcases own with rfl | ⟨smoke, filter⟩
    · exact .inl rfl
    · right
      cases r <;> first | rfl | exact absurd rfl smoke | exact absurd rfl filter
  have delivered : (s.setInput r i).deliverInput r (.settled active) = s.setInput r i := by
    refine if_neg ?_
    rcases own with rfl | ⟨smoke, _⟩ <;> simp_all
  rw [State.raiseInput_none silent, ← State.settleInto, delivered] at runs
  exact ⟨i, accepted, runs⟩

/-- Settles O51: each input by what its delivery reaches. -/
theorem safetyInputsAct : Obligations.SafetyInputsAct := by
  refine ⟨fun s pinHigh hp timer inactive streak level => ?_,
    fun s pinHigh hp timer inactive streak level working => ?_,
    fun s n r cause pinHigh own h => State.pressed own h, fun s pinHigh h => ?_,
    fun s pinHigh active c h accepted config hc hh => ?_, fun s pinHigh h => ?_,
    fun s r pinHigh active h own => ?_⟩
  · obtain ⟨t, runs, tripped, _, held, frame⟩ := State.pressed (.inl ⟨rfl, rfl, rfl⟩)
      (State.accepts_iff.2 ⟨hp, timer, inactive, level, .inr streak⟩)
    exact ⟨t, runs, tripped, held, frame⟩
  · obtain ⟨i, t, runs, shut⟩ := State.smokeActivated
      (State.accepts_iff.2 ⟨hp, timer, inactive, level, .inr streak⟩) working
    exact ⟨t, runs, shut.station, shut.stopped, shut.quiet, shut.idle.1, shut.idle.2, shut.off.1,
      shut.off.2, shut.waiting, shut.held, shut.link, State.entryFrame_sampled shut.frame⟩
  · obtain ⟨i, accepted, runs⟩ := State.filterSampled h
    have heard := s.setInput_raised .filter i .filter
    exact ⟨_, runs, heard.accepted.trans accepted, State.settleRaised_holds _ s .filter, heard.held,
      heard.frame⟩
  · obtain ⟨i, state, runs⟩ := State.occSampled accepted
    have fault : ((s.setInput .occ i).evaluate.settleInto s).fault = s.fault := by
      rw [State.settleInto_fault, State.evaluate_fault]
      rfl
    obtain ⟨zone, side, occupied, vacant⟩ := State.occEvaluated s state config hc hh
    exact ⟨_, runs, zone, side, occupied, vacant, fault, State.stageFrame_inputs
      (State.stageFrame_trans (State.evaluate_frame _ .plain) (State.settleInto_frame _ s))⟩
  · obtain ⟨i, t, runs, accepted, held, frame, shut, heard⟩ := State.smokeSettles h
    cases working : s.station.state.working with
    | true =>
      have shut := shut working
      exact ⟨t, runs, (State.entryFrame_accepted shut.frame).trans accepted, held,
        shut.station, fun _ => ⟨shut.quiet, shut.idle.2, shut.off.1, shut.waiting⟩, shut.link,
        State.entryFrame_sampled shut.frame⟩
    | false =>
      obtain ⟨heard, station, link⟩ := heard working
      have abandoned : t.link.abandoned = s.link.abandoned := by rw [link]
      refine ⟨t, runs, heard.accepted, held, station, nofun, ?_, State.entryFrame_sampled frame⟩
      rw [abandoned]
      exact link
  · obtain ⟨i, accepted, runs⟩ := State.quietSettles h own
    have heard := s.setInput_heardOnly r i
    have fault : ((s.setInput r i).settleInto s).fault = s.fault := State.settleInto_fault _ s
    exact ⟨_, runs, heard.accepted.trans accepted, fault, State.settleInto_selects _ s, heard.held,
      heard.frame⟩

end Sys2Proof.Machine

/-! # Counts that repeated evaluations keep (R116, R118, R120 to R125)

A plain evaluation of the working states leaves a mode that a further one does not unsettle: calls,
yield hold and changeover stay, and the mode itself can only go from a mode on no side to ECON, which
needs that no cooling stage runs. -/

namespace Sys2Proof.Machine

/-! ## What the counts depend on -/

/-- R109 to R117: zone, demand, calls and the economizer formed from a given mode. -/
def State.formedOf (s : State) (m : ModeLogic) : ModeLogic :=
  { s.formCalls (s.formDemand m) with econAvailable := s.economizerAvailable }

/-- R108, R116: the mode and its counts formed from a given mode, before the fan. -/
def State.aimOf (s : State) (m : ModeLogic) : ModeLogic :=
  s.formWanted (s.formUnitMode (s.yieldEnd (s.formedOf m)))

theorem State.aimed_eq (s : State) : s.aimed = s.aimOf s.mode := rfl

/-- Two states that the counts cannot tell apart. -/
structure State.SameAim (s t : State) : Prop where
  config : t.config = s.config
  table : t.table = s.table
  scan : t.scan = s.scan
  inputs : t.inputs = s.inputs
  working : t.station.state.working = s.station.state.working
  inConfig : t.station.state = .config ↔ s.station.state = .config
  counts : ∀ d, t.runningCount d = s.runningCount d

namespace State.SameAim

variable {s t : State}

theorem formedOf (k : s.SameAim t) (m : ModeLogic) : t.formedOf m = s.formedOf m := by
  have reading (c : Channel) : t.reading c = s.reading c := by
    rw [State.reading, State.sensor, k.scan]
    rfl
  have cfg : t.cfg = s.cfg := State.cfg_congr k.config
  have occupied : t.occupied = s.occupied := by
    rw [State.occupied, State.accepted, State.input, k.inputs]
    rfl
  have contributing : t.contributing = s.contributing := by
    rw [State.contributing, k.table]
    rfl
  have zone : t.zoneReading = s.zoneReading := by
    simp only [State.zoneReading, reading, contributing, k.inConfig]
  have available : t.economizerAvailable = s.economizerAvailable := by
    simp only [State.economizerAvailable, reading, cfg]
  simp only [State.formedOf, State.formCalls, State.formDemand, State.coolError, State.heatError,
    State.coolSetpoint, State.heatSetpoint, zone, cfg, occupied, available]

theorem coolSetpoint (k : s.SameAim t) : t.coolSetpoint = s.coolSetpoint := by
  have occupied : t.occupied = s.occupied := by
    rw [State.occupied, State.accepted, State.input, k.inputs]
    rfl
  rw [State.coolSetpoint, occupied, State.cfg_congr k.config]
  rfl

theorem yieldEnd (k : s.SameAim t) (m : ModeLogic) : t.yieldEnd m = s.yieldEnd m := by
  have opposed (d : Side) : t.opposed d = s.opposed d := by
    rw [State.opposed, k.table]
    rfl
  simp only [State.yieldEnd, k.working, k.counts, opposed]

theorem formUnitMode (k : s.SameAim t) (m : ModeLogic) : t.formUnitMode m = s.formUnitMode m := by
  have heats : t.neighbourHeats = s.neighbourHeats := by
    rw [State.neighbourHeats, k.table]
    rfl
  have entry : t.econEntry m = s.econEntry m := by
    simp only [State.econEntry, k.counts, heats]
  have spent : t.econSpent m = s.econSpent m := by
    rw [State.econSpent, State.coolError, k.coolSetpoint]
    rfl
  simp only [State.formUnitMode, k.working, k.counts, entry, spent]

theorem aimOf (k : s.SameAim t) (m : ModeLogic) : t.aimOf m = s.aimOf m := by
  simp only [State.aimOf, k.formedOf, k.yieldEnd, k.formUnitMode, State.formWanted, State.wantedOf,
    k.working]

end State.SameAim

/-! ## A mode that a further evaluation does not unsettle -/

/-- What the fan, the name and the damper leave of a mode's aim. -/
structure ModeLogic.FinishedBy (a n : ModeLogic) : Prop where
  kept : n = { a with
    fan := n.fan, offDelay := n.offDelay, mode := n.mode, damperTarget := n.damperTarget
    damper := n.damper, fullOpen := n.fullOpen }
  econ : n.mode = .econ ↔ a.mode = .econ
  cool : n.mode = .cool → a.mode = .cool
  heat : n.mode = .heat → a.mode = .heat
  open' : n.fullOpen = .stopped ∨ (n.fullOpen = a.fullOpen ∧ n.damper = a.damper)

theorem ModeLogic.name_mode (m : ModeLogic) :
    (m.name.mode = .econ ↔ m.mode = .econ) ∧ (m.name.mode = .cool → m.mode = .cool) ∧
      (m.name.mode = .heat → m.mode = .heat) := by
  unfold ModeLogic.name
  cases hm : m.mode <;> cases m.fan <;> simp [UnitMode.side, hm]

theorem State.formMode_finishes {t : State} (h : t.station.state ≠ .config) :
    t.aimed.FinishedBy (t.formMode .plain) := by
  have kept : t.formMode .plain = { t.aimed with
      fan := (t.formMode .plain).fan, offDelay := (t.formMode .plain).offDelay
      mode := (t.formMode .plain).mode, damperTarget := (t.formMode .plain).damperTarget
      damper := (t.formMode .plain).damper, fullOpen := (t.formMode .plain).fullOpen } := by
    have formed := State.formMode_eq h
    generalize t.formMode .plain = n at *
    rw [formed]
  have fan := t.formFan_eq .plain t.aimed
  rw [State.formMode_plain h] at kept ⊢
  generalize t.formFan .plain t.aimed = f at *
  have mode : f.mode = t.aimed.mode := by rw [fan]
  have damper : f.damper = t.aimed.damper := by rw [fan]
  have fullOpen : f.fullOpen = t.aimed.fullOpen := by rw [fan]
  obtain ⟨econ, cool, heat⟩ := f.name_mode
  rw [mode] at econ cool heat
  have name := f.name_eq
  generalize f.name = n at *
  refine ⟨kept, econ, cool, heat, ?_⟩
  by_cases on : n.mode = .econ ∧ n.fan = true
  · refine .inr ⟨(if_pos on).trans ?_, (if_pos on.2).trans ?_⟩
    · rw [name]
      exact fullOpen
    · rw [name]
      exact damper
  · exact .inl (if_neg on)

/-- R115: a call formed twice of one error is formed. -/
theorem callOf_idem (before : Bool) (e : Option Int) (setAt clearAt : Int) :
    callOf (callOf before e setAt clearAt) e setAt clearAt = callOf before e setAt clearAt := by
  unfold callOf
  cases e with
  | none => rfl
  | some v =>
    dsimp only
    split
    · rfl
    · split <;> rfl

/-- R125: a yield hold has come to its end. -/
def State.yieldEnds (s : State) (m : ModeLogic) (d : Side) : Bool :=
  s.station.state.working && (m.level == 7 || !s.opposed d)

/-- A mode as evaluations leave it, for the environment of `s`. -/
structure State.Steady (s : State) (m : ModeLogic) : Prop where
  cool1 : (s.formedOf m).cool1 = m.cool1
  cool2 : (s.formedOf m).cool2 = m.cool2
  heat1 : (s.formedOf m).heat1 = m.heat1
  heat2 : (s.formedOf m).heat2 = m.heat2
  hold : ∀ d ∈ m.yieldHold, s.yieldEnds (s.formedOf m) d = false
  econ : m.mode = .econ → m.cool1 = true ∧ s.economizerAvailable = true ∧
    s.econSpent (s.formedOf m) = false
  cool : m.mode = .cool → m.cool1 = true ∨ s.runningCount .cooling ≠ 0
  heat : m.mode = .heat → m.heat1 = true ∨ s.runningCount .heating ≠ 0
  wantedCool : m.wantedCool = s.wantedOf m .cooling m.cool1 m.cool2
  wantedHeat : m.wantedHeat = s.wantedOf m .heating m.heat1 m.heat2

theorem State.yieldEnd_held {s : State} {m : ModeLogic}
    (h : ∀ d ∈ m.yieldHold, s.yieldEnds m d = false) : s.yieldEnd m = m := by
  unfold State.yieldEnd
  split
  · rfl
  · rename_i d hd
    have held : (s.station.state.working && (m.level == 7 || !s.opposed d)) = false := h d hd
    rw [held]
    rfl

/-- R125: a hold that stands after the test has not come to its end. -/
theorem State.yieldEnd_hold (s : State) (m : ModeLogic) :
    ∀ d ∈ (s.yieldEnd m).yieldHold, s.yieldEnds m d = false := by
  unfold State.yieldEnd
  split
  · rename_i none
    intro d hd
    rw [none] at hd
    cases hd
  · rename_i d hd
    split
    · split <;> nofun
    · rename_i held
      intro c hc
      rw [hd] at hc
      cases hc
      exact Bool.eq_false_iff.2 held

/-- R116: the count of a side depends on its blocks and, for cooling, on ECON. -/
theorem State.wantedOf_congr (s : State) {m n : ModeLogic} (d : Side) (first second : Bool)
    (changeover : n.changeover = m.changeover) (side : n.changeoverSide = m.changeoverSide)
    (hold : n.yieldHold = m.yieldHold) (mode : d = .cooling → (n.mode = .econ ↔ m.mode = .econ)) :
    s.wantedOf n d first second = s.wantedOf m d first second := by
  have econ : (d == .cooling && n.mode == .econ) = (d == .cooling && m.mode == .econ) := by
    cases d with
    | cooling => rw [Bool.eq_iff_iff]; simpa using mode rfl
    | heating => rfl
  have blocked : n.blocked d = m.blocked d := by
    rw [ModeLogic.blocked, changeover, side]
    rfl
  rw [State.wantedOf, State.wantedOf, blocked, hold, econ]

/-- The unit mode of a mode that stands: the same, or ECON entered from a mode on no side. -/
theorem State.formUnitMode_stands {s : State} {m : ModeLogic}
    (working : s.station.state.working = true)
    (econ : m.mode = .econ → m.cool1 = true ∧ m.econAvailable = true ∧ s.econSpent m = false)
    (cool : m.mode = .cool → m.cool1 = true ∨ s.runningCount .cooling ≠ 0)
    (heat : m.mode = .heat → m.heat1 = true ∨ s.runningCount .heating ≠ 0) :
    s.formUnitMode m = m ∨
      (s.runningCount .cooling = 0 ∧
        ∃ f, s.formUnitMode m = { m with mode := .econ, fullOpen := f }) := by
  rw [State.formUnitMode, if_pos working]
  split
  · rename_i hm
    obtain ⟨call, available, spent⟩ := econ hm
    left
    rw [if_neg (by simp [call, available]), if_neg (by simp [spent])]
  · rename_i hm
    left
    refine if_neg ?_
    rcases cool hm with call | runs <;> simp_all
  · rename_i hm
    left
    refine if_neg ?_
    rcases heat hm with call | runs <;> simp_all
  all_goals
    split
    · rename_i entry
      simp only [State.econEntry, Bool.and_eq_true, beq_iff_eq] at entry
      exact .inr ⟨entry.1.1.1.2, _, rfl⟩
    · exact .inl rfl

/-- A further evaluation keeps the heating count, and the cooling count where cooling runs. -/
theorem State.Steady.counts {s : State} {m : ModeLogic} (working : s.station.state.working = true)
    (h : s.Steady m) :
    (s.aimOf m).wantedHeat = m.wantedHeat ∧
      ((s.aimOf m).wantedCool = m.wantedCool ∨ s.runningCount .cooling = 0) := by
  have held : s.yieldEnd (s.formedOf m) = s.formedOf m := State.yieldEnd_held h.hold
  have stands := State.formUnitMode_stands (m := s.formedOf m) working
    (fun hm => by
      obtain ⟨call, available, spent⟩ := h.econ hm
      exact ⟨h.cool1.trans call, available, spent⟩)
    (fun hm => by rw [h.cool1]; exact h.cool hm) (fun hm => by rw [h.heat1]; exact h.heat hm)
  rw [State.aimOf, held, h.wantedHeat, h.wantedCool]
  rcases stands with same | ⟨idle, f, entered⟩
  · rw [same]
    simp only [State.formWanted, h.cool1, h.cool2, h.heat1, h.heat2]
    exact ⟨s.wantedOf_congr .heating _ _ rfl rfl rfl nofun,
      .inl (s.wantedOf_congr .cooling _ _ rfl rfl rfl fun _ => .rfl)⟩
  · rw [entered]
    simp only [State.formWanted, h.heat1, h.heat2]
    exact ⟨s.wantedOf_congr .heating _ _ rfl rfl rfl nofun, .inr idle⟩

/-- R118, R120 to R122: why the unit mode just formed stands. -/
structure State.Stands (s : State) (g : ModeLogic) : Prop where
  econ : g.mode = .econ → g.cool1 = true ∧ g.econAvailable = true ∧ s.econSpent g = false
  cool : g.mode = .cool → g.cool1 = true ∨ s.runningCount .cooling ≠ 0
  heat : g.mode = .heat → g.heat1 = true ∨ s.runningCount .heating ≠ 0

theorem State.formUnitMode_formed (s : State) (working : s.station.state.working = true)
    (m : ModeLogic) : s.Stands (s.formUnitMode m) := by
  rw [State.formUnitMode, if_pos working]
  split
  · split
    · exact ⟨nofun, nofun, nofun⟩
    · rename_i hm stays
      simp only [Bool.or_eq_true, Bool.not_eq_true', not_or, Bool.not_eq_false] at stays
      split
      · exact ⟨nofun, fun _ => .inl stays.1, nofun⟩
      · rename_i spent
        exact ⟨fun _ => ⟨stays.1, stays.2, Bool.eq_false_iff.2 spent⟩, by simp [hm], by simp [hm]⟩
  · rename_i hm
    split
    · exact ⟨nofun, nofun, nofun⟩
    · rename_i stays
      refine ⟨by simp [hm], fun _ => ?_, by simp [hm]⟩
      by_cases call : m.cool1 = true
      · exact .inl call
      · exact .inr (by simpa [call] using stays)
  · rename_i hm
    split
    · exact ⟨nofun, nofun, nofun⟩
    · rename_i stays
      refine ⟨by simp [hm], by simp [hm], fun _ => ?_⟩
      by_cases call : m.heat1 = true
      · exact .inl call
      · exact .inr (by simpa [call] using stays)
  all_goals
    rename_i hm
    split
    · rename_i entry
      simp only [State.econEntry, Bool.and_eq_true] at entry
      refine ⟨fun _ => ⟨entry.1.1.1.1.1, entry.1.1.1.1.2, ?_⟩, nofun, nofun⟩
      unfold State.econSpent
      dsimp only
      split <;> rfl
    · exact ⟨by simp [hm], by simp [hm], by simp [hm]⟩

theorem State.formUnitMode_kept (s : State) (m : ModeLogic) :
    (s.formUnitMode m).yieldHold = m.yieldHold ∧
      (s.formUnitMode m).econAvailable = m.econAvailable := by
  unfold State.formUnitMode
  split
  · split
    · split
      · exact ⟨rfl, rfl⟩
      · split <;> exact ⟨rfl, rfl⟩
    all_goals split <;> exact ⟨rfl, rfl⟩
  · exact ⟨rfl, rfl⟩

theorem State.yieldEnd_available (s : State) (m : ModeLogic) :
    (s.yieldEnd m).econAvailable = m.econAvailable := by
  unfold State.yieldEnd
  split
  · rfl
  · split
    · split <;> rfl
    · rfl

/-- The mode with its counts, but for what the counts came from. -/
theorem State.aimOf_sameCalls (s : State) (m : ModeLogic) : (s.formedOf m).SameCalls (s.aimOf m) :=
  ((s.yieldEnd_sameCalls _).trans (s.formUnitMode_sameCalls _)).trans {}

/-- R121: what tells that the economizer has been fully open without enough. -/
theorem State.econSpent_congr (s : State) {m n : ModeLogic} (zone : n.zoneTemp = m.zoneTemp)
    (open' : n.fullOpen = .stopped ∨ (n.fullOpen = m.fullOpen ∧ n.damper = m.damper))
    (h : s.econSpent m = false) : s.econSpent n = false := by
  rcases open' with stopped | ⟨fullOpen, damper⟩
  · rw [State.econSpent, stopped]
    rfl
  · rw [State.econSpent, State.coolError] at h ⊢
    rwa [zone, fullOpen, damper]

/-- R116: fan, name and damper leave the counts as their formation gives them. -/
theorem ModeLogic.FinishedBy.wantedOf {s : State} {m n : ModeLogic} (h : (s.aimOf m).FinishedBy n) :
    n.wantedCool = s.wantedOf n .cooling n.cool1 n.cool2 ∧
      n.wantedHeat = s.wantedOf n .heating n.heat1 n.heat2 := by
  have econ := h.econ
  have kept := h.kept
  have changeover : n.changeover = (s.aimOf m).changeover := by rw [kept]
  have side : n.changeoverSide = (s.aimOf m).changeoverSide := by rw [kept]
  have hold : n.yieldHold = (s.aimOf m).yieldHold := by rw [kept]
  have cool1 : n.cool1 = (s.aimOf m).cool1 := by rw [kept]
  have cool2 : n.cool2 = (s.aimOf m).cool2 := by rw [kept]
  have heat1 : n.heat1 = (s.aimOf m).heat1 := by rw [kept]
  have heat2 : n.heat2 = (s.aimOf m).heat2 := by rw [kept]
  have wantedCool : n.wantedCool = (s.aimOf m).wantedCool := by rw [kept]
  have wantedHeat : n.wantedHeat = (s.aimOf m).wantedHeat := by rw [kept]
  rw [wantedCool, wantedHeat, cool1, cool2, heat1, heat2]
  exact ⟨(s.wantedOf_congr .cooling _ _ changeover side hold fun _ => econ).symm,
    (s.wantedOf_congr .heating _ _ changeover side hold nofun).symm⟩

/-- Evaluations leave a steady mode. -/
theorem State.steady_finished {s : State} (working : s.station.state.working = true)
    {m n : ModeLogic} (h : (s.aimOf m).FinishedBy n) : s.Steady n := by
  have calls := s.aimOf_sameCalls m
  have cool1 : n.cool1 = (s.formedOf m).cool1 := by rw [h.kept]; exact calls.cool1
  have cool2 : n.cool2 = (s.formedOf m).cool2 := by rw [h.kept]; exact calls.cool2
  have heat1 : n.heat1 = (s.formedOf m).heat1 := by rw [h.kept]; exact calls.heat1
  have heat2 : n.heat2 = (s.formedOf m).heat2 := by rw [h.kept]; exact calls.heat2
  have hold : n.yieldHold = (s.yieldEnd (s.formedOf m)).yieldHold := by
    rw [h.kept]
    exact (s.formUnitMode_kept _).1
  have available : (s.aimOf m).econAvailable = s.economizerAvailable :=
    (s.formUnitMode_kept _).2.trans (s.yieldEnd_available _)
  have stands : s.Stands (s.aimOf m) :=
    have formed := s.formUnitMode_formed working (s.yieldEnd (s.formedOf m))
    ⟨formed.econ, formed.cool, formed.heat⟩
  have callsKept : n.cool1 = (s.aimOf m).cool1 ∧ n.heat1 = (s.aimOf m).heat1 := by
    rw [h.kept]
    exact ⟨rfl, rfl⟩
  refine
    { cool1 := ?_, cool2 := ?_, heat1 := ?_, heat2 := ?_
      hold := fun d hd => ?_
      econ := fun hm => ?_
      cool := fun hm => ?_
      heat := fun hm => ?_
      wantedCool := ?_
      wantedHeat := ?_ }
  · change callOf n.cool1 _ 5 0 = n.cool1
    rw [cool1]
    exact callOf_idem _ _ _ _
  · change callOf n.cool2 _ 15 8 = n.cool2
    rw [cool2]
    exact callOf_idem _ _ _ _
  · change callOf n.heat1 _ 5 0 = n.heat1
    rw [heat1]
    exact callOf_idem _ _ _ _
  · change callOf n.heat2 _ 15 8 = n.heat2
    rw [heat2]
    exact callOf_idem _ _ _ _
  · rw [hold] at hd
    exact s.yieldEnd_hold (s.formedOf m) d hd
  · obtain ⟨call, avail, spent⟩ := stands.econ (h.econ.1 hm)
    refine ⟨callsKept.1.trans call, available.symm.trans avail, ?_⟩
    exact s.econSpent_congr (n := s.formedOf n) calls.zoneTemp.symm h.open' spent
  · rw [callsKept.1]
    exact stands.cool (h.cool hm)
  · rw [callsKept.2]
    exact stands.heat (h.heat hm)
  · exact h.wantedOf.1
  · exact h.wantedOf.2

end Sys2Proof.Machine

/-! # A SHED received (R14, R19, R96 to R101)

The stage that answers a call, and the running stages that a return to SHARING leaves alone. -/

namespace Sys2Proof.Machine

/-! ## The offered stage stopped (R93, R101) -/

theorem State.offeredSlot_runFree {s : State} {i : Slot} (h : s.offeredSlot = some i) :
    s.stageState i = .runFree := by
  unfold State.offeredSlot at h
  split at h
  · exact beq_iff_eq.1 (List.find?_some (p := fun i => s.stageState i == .runFree) h)
  · cases h

theorem State.offer_eq {s : State} {i : Slot} (h : s.offeredSlot = some i) :
    s.offer = s.increment i := by
  rw [State.offer, h]

theorem State.stopSlot_rests {s : State} {i : Slot} (running : s.isRunning i = true) :
    (s.stopSlot i).Rests i (s.stoppedStage i) := by
  refine ⟨?_, ?_⟩
  · rw [State.stopSlot_slot, if_pos ⟨rfl, running⟩]
    rfl
  · rw [State.stopSlot_order, if_pos running]
    simp

/-- A stopped stage takes its increment off the staged load. -/
theorem State.stagedLoad_stopSlot {s : State} {i : Slot} (running : s.isRunning i = true) :
    (s.stopSlot i).stagedLoad + s.increment i = s.stagedLoad := by
  have config : (s.stopSlot i).config = s.config := by rw [State.stopSlot_eq]
  have one : s.increment i = (allSlots.map fun j => if j = i then s.increment j else 0).sum := by
    cases i <;> simp [allSlots]
  rw [State.stagedLoad_eq, State.stagedLoad_eq, one, ← List.sum_map_add]
  refine congrArg List.sum (List.map_congr_left fun j _ => ?_)
  rw [State.isRunning_stopSlot, State.increment_congr config]
  by_cases hj : j = i
  · simp [hj, running]
  · simp [hj]

/-- R123: the mode with the changeover timer of a side whose last stage stopped since `before`. -/
def State.movedMode (s before : State) : ModeLogic :=
  let last (d : Side) : Bool := 0 < before.runningCount d && s.runningCount d == 0
  let m := if last .cooling then s.mode.loadChangeover .cooling else s.mode
  if last .heating then m.loadChangeover .heating else m

/-- R123, R137: what transitions hand on is that mode, and the STATE of a changed staged load. -/
theorem State.reportStages_eq (s before : State) :
    s.reportStages before = if s.stagedLoad = before.stagedLoad
      then { s with mode := s.movedMode before }
      else State.requestState { s with mode := s.movedMode before } := by
  unfold State.reportStages State.movedMode
  dsimp only
  split
  · split
    · rfl
    · rfl
  · split
    · rfl
    · rfl

/-- R137: a changed staged load requests a STATE. -/
theorem State.reportStages_waiting {s before : State} (load : s.stagedLoad ≠ before.stagedLoad)
    (reports : s.station.state.reports = true) :
    (s.reportStages before).link.stateSlot.waiting = true := by
  rw [State.reportStages_eq, if_neg load]
  exact State.requestState_waiting false reports

theorem State.evaluateOnce_asked (s : State) (cause : EvalCause) :
    s.link.Asked (s.evaluateOnce cause).link :=
  State.evaluateOnce_keeps (State.blind_asked s.link).keeps s cause (.refl _)

theorem State.serveWanted_asked (fuel : Nat) (tested : ModeLogic) (s : State) :
    s.link.Asked (State.serveWanted fuel tested s).link :=
  State.serveWanted_keeps (State.blind_asked s.link).keeps fuel tested s (.refl _)

theorem State.stageStates_get (s : State) (i : Slot) : s.stageStates.get i = s.stageState i :=
  PerSlot.get_of _ i

/-- R137: a stop that takes load off leaves a STATE waiting. -/
theorem State.stopSlot_waiting {s : State} {i : Slot} (running : s.isRunning i = true)
    (load : 0 < s.increment i) (reports : s.station.state.reports = true) :
    ((s.stopSlot i).stagesMoved s).link.stateSlot.waiting = true := by
  have less := State.stagedLoad_stopSlot running
  have moved : (s.stopSlot i).stageStates ≠ s.stageStates := by
    intro same
    have state : (s.stopSlot i).stageState i = s.stageState i := by
      rw [← State.stageStates_get, same, State.stageStates_get]
    have rests := (State.stopSlot_rests running).1
    rw [State.isRunning, ← state, State.stageState, rests] at running
    cases running
  rw [State.stagesMoved, State.reportMove, if_neg moved]
  refine (State.serveWanted_asked _ _ _).state ((State.evaluateOnce_asked _ _).state ?_)
  exact State.reportStages_waiting (by omega) (by rwa [(State.stopSlot_frame s i).station_eq])

/-! ## Running stages left alone while the counts stay -/

/-- A state in SHARING whose evaluation would change no wanted count. -/
structure State.Even (z : State) : Prop where
  sharing : z.station.state = .sharing
  cool : z.aimed.wantedCool = z.mode.wantedCool
  heat : z.aimed.wantedHeat = z.mode.wantedHeat

/-- What an event makes of such a state: the same stages run, and the counts bring no stop. -/
structure State.Calm (z t : State) : Prop where
  frame : z.stageFrame t
  runs : ∀ i, t.isRunning i = z.isRunning i
  slot : ∀ i, z.isRunning i = true → t.slot i = z.slot i
  heat : t.mode.wantedHeat = z.mode.wantedHeat
  cool : t.mode.wantedCool = z.mode.wantedCool ∨ z.runningCount .cooling = 0
  mode : t.mode = z.mode ∨ z.Steady t.mode

theorem State.runningCount_congr {s t : State} (h : ∀ i, t.isRunning i = s.isRunning i) (d : Side) :
    t.runningCount d = s.runningCount d := by
  rw [State.runningCount, State.runningCount, funext h]

/-- R123: no changeover timer is loaded by a transition that starts and stops nothing. -/
theorem State.movedMode_same {s before : State} (h : ∀ i, s.isRunning i = before.isRunning i) :
    s.movedMode before = s.mode := by
  have last (d : Side) :
      (decide (0 < before.runningCount d) && s.runningCount d == 0) = false := by
    rw [State.runningCount_congr h d]
    cases before.runningCount d <;> rfl
  simp only [State.movedMode, last]
  rfl

namespace State.Calm

variable {z t : State}

theorem refl (z : State) : z.Calm z where
  frame := ⟨rfl, rfl⟩
  runs _ := rfl
  slot _ _ := rfl
  heat := rfl
  cool := .inl rfl
  mode := .inl rfl

/-- What moves no running stage and leaves the mode keeps calm. -/
theorem moved (k : z.Calm t) {u : State} (frame : t.stageFrame u) (mode : u.mode = t.mode)
    (runs : ∀ i, u.isRunning i = t.isRunning i)
    (slot : ∀ i, t.isRunning i = true → u.slot i = t.slot i) : z.Calm u where
  frame := State.stageFrame_trans k.frame frame
  runs i := (runs i).trans (k.runs i)
  slot i hi := (slot i (by rw [k.runs, hi])).trans (k.slot i hi)
  heat := by rw [mode, k.heat]
  cool := by rw [mode]; exact k.cool
  mode := by rw [mode]; exact k.mode

theorem unmoved (k : z.Calm t) {u : State} (frame : t.stageFrame u) (mode : u.mode = t.mode)
    (slots : u.stage.slots = t.stage.slots) : z.Calm u :=
  k.moved frame mode (State.isRunning_congr slots) fun i _ => State.slot_congr slots i

theorem request (k : z.Calm t) (roll : Bool) : z.Calm (t.requestState roll) :=
  k.unmoved (t.requestState_frame roll) (by simp) (by simp)

theorem sameAim (k : z.Calm t) : z.SameAim t where
  config := k.frame.config_eq
  table := k.frame.table_eq
  scan := k.frame.scan_eq
  inputs := k.frame.inputs_eq
  working := by rw [k.frame.station_eq]
  inConfig := by rw [k.frame.station_eq]
  counts := State.runningCount_congr k.runs

/-- R108: an evaluation. -/
theorem evaluateOnce (e : z.Even) (k : z.Calm t) : z.Calm (t.evaluateOnce .plain) := by
  have working : z.station.state.working = true := by rw [e.sharing]; rfl
  have finishes : t.aimed.FinishedBy (t.formMode .plain) :=
    State.formMode_finishes (by rw [k.frame.station_eq, e.sharing]; nofun)
  rw [State.aimed_eq, k.sameAim.aimOf] at finishes
  have aim : (z.aimOf t.mode).wantedHeat = t.mode.wantedHeat ∧
      ((z.aimOf t.mode).wantedCool = t.mode.wantedCool ∨ z.runningCount .cooling = 0) := by
    rcases k.mode with same | steady
    · rw [same]
      exact ⟨e.heat, .inl e.cool⟩
    · exact steady.counts working
  have heat : (t.formMode .plain).wantedHeat = (z.aimOf t.mode).wantedHeat := by rw [finishes.kept]
  have cool : (t.formMode .plain).wantedCool = (z.aimOf t.mode).wantedCool := by rw [finishes.kept]
  have slots := (t.evaluateOnce_stage .plain).1
  refine
    { frame := State.stageFrame_trans k.frame (t.evaluateOnce_frame .plain)
      runs := fun i => (State.isRunning_congr slots i).trans (k.runs i)
      slot := fun i hi => (State.slot_congr slots i).trans (k.slot i hi)
      heat := ?_
      cool := ?_
      mode := ?_ }
  all_goals rw [State.evaluateOnce_mode]
  · rw [heat, aim.1, k.heat]
  · rw [cool]
    rcases aim.2 with same | idle
    · rw [same]
      exact k.cool
    · exact .inr idle
  · exact .inr (State.steady_finished working finishes)

/-- R137: the report of a transition that starts and stops nothing. -/
theorem reportMove (e : z.Even) (k : z.Calm t) {before : State}
    (runs : ∀ i, before.isRunning i = z.isRunning i) : z.Calm (t.reportMove before) := by
  have same : t.movedMode before = t.mode :=
    State.movedMode_same fun i => (k.runs i).trans (runs i).symm
  have reported : z.Calm (t.reportStages before) := by
    rw [State.reportStages_eq, same]
    split
    · exact k
    · exact k.request false
  unfold State.reportMove
  split
  · exact k
  · exact evaluateOnce e reported

/-- R147: no stop is due for counts that are still those of the start. -/
theorem serveWanted (k : z.Calm t) (fuel : Nat) {tested : ModeLogic}
    (heat : tested.wantedHeat = z.mode.wantedHeat)
    (cool : tested.wantedCool = z.mode.wantedCool ∨ z.runningCount .cooling = 0) :
    State.serveWanted fuel tested t = t := by
  have sameHeat : t.mode.wantedHeat = tested.wantedHeat := k.heat.trans heat.symm
  have due : t.stopsFor tested = [] := by
    unfold State.stopsFor
    rw [if_pos sameHeat, List.append_nil]
    split
    · rfl
    · rename_i changed
      have idle : t.runningCount .cooling = 0 := by
        rw [State.runningCount_congr k.runs]
        rcases k.cool with same | idle
        · exact cool.resolve_left fun h => changed (same.trans h.symm)
        · exact idle
      rw [State.stopsDue, idle, Nat.zero_sub, List.take_zero]
  cases fuel with
  | zero => rfl
  | succ n => rw [State.serveWanted, due]

theorem unclaimSlot (k : z.Calm t) (i : Slot) : z.Calm (t.unclaimSlot i) := by
  refine k.moved (t.unclaimSlot_frame i) ?_ (t.isRunning_unclaimSlot i) fun j hj => ?_
  · rw [State.unclaimSlot_eq]
  · unfold State.unclaimSlot
    split
    · rename_i claimed
      rw [State.slot_setSlot, if_neg]
      rintro rfl
      rw [State.isRunning, claimed] at hj
      cases hj
    · rfl

theorem unclaims (e : z.Even) (l : List Slot) (k : z.Calm t) :
    z.Calm (t.moveEach State.unclaimSlot l) := by
  induction l generalizing t with
  | nil => exact k
  | cons i rest ih =>
    rw [State.moveEach_cons]
    exact ih (reportMove e (k.unclaimSlot i) k.runs)

/-- R7, R19: the rest of an entry. -/
theorem entryEnd (e : z.Even) (k : z.Calm t) {before : State}
    (heat : before.mode.wantedHeat = z.mode.wantedHeat)
    (cool : before.mode.wantedCool = z.mode.wantedCool) :
    z.Calm (t.admissionIdle.requestState.entered before) := by
  have idled : z.Calm { t with adm := t.adm.idled } := k.unmoved ⟨rfl, rfl⟩ rfl rfl
  have evaluated := evaluateOnce e ((unclaims e allSlots idled).request false)
  have served := evaluated.serveWanted 4 heat (.inl cool)
  rw [State.entered]
  exact served.symm ▸ evaluated

/-- R73 to R79: a decision in SHARING starts nothing. -/
theorem decision (e : z.Even) (k : z.Calm t) {u : State} {i : Slot} (ready : t.selectable i = true)
    (d : t.Decision i u) : z.Calm u := by
  have station : t.station.state = .sharing := by rw [k.frame.station_eq, e.sharing]
  have free := State.ready_of_selectable ready
  have frame := d.frame
  cases d with
  | claim level headroom =>
    have slots : (State.openClaim (t.judged level headroom) i level).stage.slots =
        (t.setSlot i { t.slot i with state := .claimed }).stage.slots := by
      simp [State.openClaim]
      rfl
    refine k.moved frame (by simp [State.openClaim]; rfl) (fun j => ?_) fun j hj => ?_
    · rw [State.isRunning_congr slots, State.isRunning_setSlot]
      split
      · rename_i same
        rw [same, State.isRunning, free]
        rfl
      · rfl
    · rw [State.slot_congr slots, State.slot_setSlot, if_neg]
      rintro rfl
      rw [State.isRunning, free] at hj
      cases hj
  | shed level headroom needed =>
    exact k.unmoved frame (by simp [State.callShed]; rfl) (by simp [State.callShed]; rfl)
  | denied level headroom => exact k.unmoved frame rfl rfl
  | granted level headroom mode fits alone => exact absurd station alone

/-- R70, R141: the end of the event. -/
theorem settleInto (e : z.Even) (k : z.Calm t) (before : State) : z.Calm (t.settleInto before) := by
  have selected : z.Calm t.select := k.unmoved t.select_frame rfl rfl
  have taken : z.Calm t.select.takeRequest := by
    rcases t.select.takeRequest_decides with same | ⟨i, presented, _, _, d⟩
    · rw [same]
      exact selected
    · exact decision e selected (t.select_presented.1 i presented) d
  have reported := reportMove e taken selected.runs
  have moved : z.Calm (t.select.takeRequest.stagesMoved t.select) := by
    rw [State.stagesMoved, reported.serveWanted 4 taken.heat taken.cool]
    exact reported
  have started : z.Calm t.serveStarts := moved.unmoved (State.select_frame _) rfl rfl
  rw [State.settleInto, State.settleStarts, State.reportOffer]
  split
  · exact started.unmoved (State.drivePins_frame _) (State.drivePins_mode _)
      (by rw [State.drivePins_stage])
  · exact (started.request false).unmoved (State.drivePins_frame _) (State.drivePins_mode _)
      (by rw [State.drivePins_stage])

end State.Calm

/-! ## SHED_RECEIVED -/

/-- R14, R25: the frame taken and the silence timer loaded. -/
def State.heard (s : State) : State :=
  { s with link := s.link.complete, station.silence := some silenceTime }

theorem State.shedReceived_runs {s : State} {frame : List Byte} {n : Nat} {id : BitVec 32}
    {call : ShedCall} (hp : s.powered = true) (hr : s.link.canReceive = true)
    (hf : parseFrame frame = some ⟨n, id, .shed call⟩) (hn : n ≠ s.number) :
    exec (.shedReceived frame) s = .next ((s.takeShed n call).settleInto s) := by
  change execShedReceived frame s = _
  rw [execShedReceived, hf]
  exact State.event_runs s _ _ hp (by simp [hr, hn])

theorem State.takeShed_apart {s : State} {n : Nat} {call : ShedCall}
    (apart : s.station.state ≠ .sharing) :
    s.takeShed n call = State.hearOther { s with link := s.link.complete } := by
  rw [State.takeShed, if_neg apart]

theorem State.takeShed_sharing {s : State} {n : Nat} {call : ShedCall}
    (sharing : s.station.state = .sharing) : s.takeShed n call = s.heard.respondShed n call := by
  have stays : ¬ ({ s with link := s.link.complete } : State).Returns := fun returns => by
    have isolated : s.station.state = .isolated := returns.1
    rw [sharing] at isolated
    cases isolated
  rw [State.takeShed, if_pos sharing, State.hearOther_stays stays]
  rfl

/-- R97 to R101: SELF in the list stops the offered stage. -/
theorem State.respondShed_stops {s : State} {n : Nat} {call : ShedCall} {i : Slot}
    (self : (shedPrefix call.needed (s.candidates n call.level)).any
      (fun c => c.station == s.number) = true) (offered : s.offeredSlot = some i) :
    s.respondShed n call = (s.stopSlot i).stagesMoved s := by
  unfold State.respondShed
  dsimp only
  rw [if_pos self, offered]

theorem State.respondShed_quiet {s : State} {n : Nat} {call : ShedCall}
    (self : (shedPrefix call.needed (s.candidates n call.level)).any
      (fun c => c.station == s.number) = false) : s.respondShed n call = s := by
  unfold State.respondShed
  dsimp only
  rw [if_neg (by rw [self]; nofun)]

/-- R14, R96: a SHED that neither stops a stage nor ends isolation. -/
theorem State.takeShed_ignored {s : State} {n : Nat} {call : ShedCall} (stays : ¬ s.Returns)
    (self : s.station.state = .sharing →
      (shedPrefix call.needed (s.candidates n call.level)).any (fun c => c.station == s.number) =
        false) : s.takeShed n call = s.heard := by
  by_cases sharing : s.station.state = .sharing
  · rw [State.takeShed_sharing sharing]
    exact State.respondShed_quiet (s := s.heard) (self sharing)
  · rw [State.takeShed_apart sharing]
    exact State.hearOther_stays (s := { s with link := s.link.complete }) stays

/-- What a taken SHED leaves alone. -/
theorem State.heard_settled {s u : State} (before : State) (frame : s.heard.stageFrame u)
    (fault : u.fault = s.fault) :
    (u.settleInto before).station = { s.station with silence := some 6000 } ∧
      ({ s.link with idle := false, rx := .discard, afterFrame := true } : Link).sameButQueue
        (u.settleInto before).link ∧
      u.settleInto before = { s with
        station := (u.settleInto before).station, link := (u.settleInto before).link
        adm := (u.settleInto before).adm, mode := (u.settleInto before).mode
        stage := (u.settleInto before).stage, pins := (u.settleInto before).pins } := by
  have moved := State.stageFrame_trans frame (State.settleInto_frame u before)
  have kept : (u.settleInto before).fault = s.fault := (State.settleInto_fault u before).trans fault
  generalize u.settleInto before = t at *
  refine ⟨moved.station_eq, State.complete_sameButQueue (s := s) moved.2, ?_⟩
  rw [moved.1, kept]
  rfl

/-- R101, R137: the offered stage stopped and the stop reported. -/
theorem State.heard_stopped {s : State} {i : Slot} (sharing : s.station.state = .sharing)
    (offered : s.offeredSlot = some i) (load : 0 < s.offer) :
    ((s.heard.stopSlot i).stagesMoved s.heard).Rests i (s.stoppedStage i) ∧
      ((s.heard.stopSlot i).stagesMoved s.heard).link.stateSlot.waiting = true ∧
      s.heard.stageFrame ((s.heard.stopSlot i).stagesMoved s.heard) ∧
      ((s.heard.stopSlot i).stagesMoved s.heard).fault = s.fault := by
  have running : s.heard.isRunning i = true := by
    have free : s.heard.stageState i = .runFree := State.offeredSlot_runFree offered
    rw [State.isRunning, free]
    rfl
  have increment : 0 < s.heard.increment i := by
    rw [State.offer_eq offered] at load
    exact load
  have reports : s.heard.station.state.reports = true := by
    show s.station.state.reports = true
    rw [sharing]
    rfl
  refine ⟨State.stagesMoved_keeps (State.rests_keeps rfl) _ _ (State.stopSlot_rests running),
    State.stopSlot_waiting running increment reports,
    State.stageFrame_trans (State.stopSlot_frame s.heard i)
      (State.stagesMoved_frame (s.heard.stopSlot i) s.heard), ?_⟩
  rw [State.stagesMoved_fault, State.stopSlot_eq]
  rfl

/-! ## A SHED that ends isolation (R19) -/

/-- R7, R19: the station state as the return sets it. -/
def State.returning (s : State) : State :=
  { s.heard with station.state := .sharing, station.cause := .none }

theorem State.takeShed_returns {s : State} {n : Nat} {call : ShedCall} (h : s.Returns) :
    s.takeShed n call = s.returning.admissionIdle.requestState.entered s.heard := by
  have isolated := h.1
  have apart : s.station.state ≠ .sharing := by rw [isolated]; nofun
  have set : s.heard.setStation .sharing .none = s.returning :=
    State.setStation_apart (s := s.heard) .sharing .none apart
  rw [State.takeShed_apart apart,
    State.hearOther_returns (s := { s with link := s.link.complete }) h]
  change s.heard.enterWorking .sharing = _
  rw [State.enterWorking, set]

/-- Log entry 13: a return whose evaluation would change no wanted count. -/
theorem State.returning_even {s : State} (isolated : s.station.state = .isolated)
    (cool : (s.formMode .plain).wantedCool = s.mode.wantedCool)
    (heat : (s.formMode .plain).wantedHeat = s.mode.wantedHeat) : s.returning.Even := by
  have aim : s.SameAim s.returning :=
    { config := rfl, table := rfl, scan := rfl, inputs := rfl
      working := by rw [isolated]; rfl
      inConfig := by rw [isolated]; exact ⟨nofun, nofun⟩
      counts := fun _ => rfl }
  have same : s.returning.aimed = s.aimed := aim.aimOf s.mode
  have finishes := State.formMode_finishes (t := s) (by rw [isolated]; nofun)
  have wantedCool : (s.formMode .plain).wantedCool = s.aimed.wantedCool := by rw [finishes.kept]
  have wantedHeat : (s.formMode .plain).wantedHeat = s.aimed.wantedHeat := by rw [finishes.kept]
  exact
    { sharing := rfl
      cool := by rw [same, ← wantedCool]; exact cool
      heat := by rw [same, ← wantedHeat]; exact heat }

/-- Log entry 13: the stages that run through the return are as they were. -/
theorem State.takeShed_calm {s : State} {n : Nat} {call : ShedCall} (h : s.Returns)
    (even : s.returning.Even) (before : State) :
    s.returning.Calm ((s.takeShed n call).settleInto before) := by
  rw [State.takeShed_returns h]
  exact ((State.Calm.refl s.returning).entryEnd even rfl rfl).settleInto even before

/-- Settles O26: the stage that answers, the call ignored, and the return that answers none. -/
theorem shedReceivedStopsTheOfferedStage : Obligations.ShedReceivedStopsTheOfferedStage := by
  refine ⟨fun s frame n id call i hp hr hf hn sharing offered load self => ?_,
    fun s frame n id call hp hr hf hn isolated ignored => ?_,
    fun s frame n id call hp hr hf hn isolated cause drops => ?_⟩
  · refine ⟨_, State.shedReceived_runs hp hr hf hn, ?_⟩
    rw [State.takeShed_sharing sharing, State.respondShed_stops (s := s.heard) self offered]
    obtain ⟨rests, waiting, frame, fault⟩ := State.heard_stopped sharing offered load
    generalize (s.heard.stopSlot i).stagesMoved s.heard = u at *
    obtain ⟨station, link, kept⟩ := State.heard_settled s frame fault
    exact ⟨State.stopTaken_settleInto s rests, station,
      (State.settleInto_asked u s).state waiting, link, kept⟩
  · refine ⟨_, State.shedReceived_runs hp hr hf hn, ?_⟩
    have stays : ¬ s.Returns := by
      rw [State.returns_iff]
      rintro ⟨state, notDuplicate, notNone, drops⟩
      rcases isolated state with duplicate | none | dropped
      · exact notDuplicate duplicate
      · exact notNone none
      · exact dropped drops
    rw [State.takeShed_ignored stays ignored]
    obtain ⟨station, link, kept⟩ := State.heard_settled (u := s.heard) s ⟨rfl, rfl⟩ rfl
    refine ⟨station, link, fun held => ?_, kept⟩
    obtain ⟨adm, mode, stage⟩ := State.settleInto_plant (s := s.heard) s held
    exact ⟨stage, adm, mode⟩
  · refine ⟨_, State.shedReceived_runs hp hr hf hn, ?_⟩
    have returns : s.Returns := ⟨isolated, cause, drops⟩
    have calm := fun cool heat => State.takeShed_calm (n := n) (call := call) returns
      (State.returning_even isolated cool heat) s
    rw [State.takeShed_returns returns] at calm ⊢
    have frame := s.returning.entryEnd_frame s.heard
    have fault := s.returning.entryEnd_fault s.heard
    have waiting := State.entryEnd_waiting (s := s.returning) s.heard rfl
    generalize s.returning.admissionIdle.requestState.entered s.heard = u at *
    have moved := State.stageFrame_trans frame (State.settleInto_frame u s)
    have kept : (u.settleInto s).fault = s.fault := (State.settleInto_fault u s).trans fault
    have waits := (State.settleInto_asked u s).state waiting
    generalize u.settleInto s = t at *
    refine ⟨moved.station_eq, waits,
      fun i running cool heat => (calm cool heat).slot i running,
      State.complete_sameButQueue (s := s) moved.2, ?_⟩
    rw [moved.1, kept]
    rfl

end Sys2Proof.Machine

/-! # What every command keeps of the link, the table and the record

A law that looks at the Link Controller, the Roof Table and the record alone is shown once for the
operations that write these, and carried from them to every command. Everything else a command does
(at the plant, the inputs, the Fault Capture, station control) reaches them by requests alone.
`State.Invariant` is the counterpart for laws that look at neither the link nor the table. -/

namespace Sys2Proof.Machine

/-- `t` has the Link Controller, the Roof Table and the record of `s`. -/
structure State.SameRoof (s t : State) : Prop where
  link : t.link = s.link := by rfl
  table : t.table = s.table := by rfl
  config : t.config = s.config := by rfl

/-- The slots and the attempt count are as before; the wire and the backoff count are, or are clear. -/
structure Link.Quiets (l k : Link) : Prop where
  leave : k.leaveSlot = l.leaveSlot := by rfl
  shed : k.shedSlot = l.shedSlot := by rfl
  state : k.stateSlot = l.stateSlot := by rfl
  attempts : k.attempts = l.attempts := by rfl
  onWire : k.onWire = l.onWire ∨ k.onWire = none := by exact .inl rfl
  backoff : k.backoff = l.backoff ∨ k.backoff = none := by exact .inl rfl

/-- R54: an entry that holds a claim part is FRESH or STALE. -/
def Entry.ClaimHeard (e : Entry) : Prop := e.claim.isSome = true → e.state.heard = true

/-- R54: an entry that ages gives up its claim part with its place among those heard. -/
theorem Entry.age_claimHeard {e : Entry} (h : e.ClaimHeard) : e.age.ClaimHeard := by
  unfold Entry.age
  split
  · exact fun _ => rfl
  · nofun
  · exact h

/-- A law that requests, and the SHED dropped on leaving SHARING (R32), keep, and that looks at the
link, the table and the record alone. -/
structure State.QueueKept (P : State → Prop) : Prop where
  core : ∀ {s t : State}, P s → s.SameRoof t → P t
  request : ∀ (s : State) (roll : Bool), P s → P (s.requestState roll)
  shed : ∀ (s : State) (call : ShedCall), P s → P (s.requestShed call)
  drop : ∀ s : State, P s → P { s with link := s.link.dropShed }

/-- A law that every command keeps: what the operations on the link, the table and the record do to
it. -/
structure State.RoofKept (P : State → Prop) : Prop extends State.QueueKept P where
  quiet : ∀ (s : State) (l : Link), s.link.Quiets l → P s → P { s with link := l }
  serve : ∀ s : State, P s → P s.serveLink
  attempt : ∀ s : State, s.link.backoff.isSome = true → P s → P s.beginAttempt
  failed : ∀ (s : State) (w : WireFrame), s.link.onWire = some w → P s → P (s.failAttempt w)
  sent : ∀ (s : State) (w : WireFrame), s.link.onWire = some w → P s →
    P (State.serveLink { s with link := s.link.sent w.roll })
  leave : ∀ s : State, P s → P s.askLeave
  entry : ∀ (s : State) (n : Nat) (e : Entry), ((s.entry n).ClaimHeard → e.ClaimHeard) → P s →
    P (s.setEntry n e)
  ceiling : ∀ s : State, P s → P s.recomputeCeiling
  restarted : ∀ s : State, P s → P s.restarted
  join : ∀ (s : State) (cfg : ConfigRecord), s.config = some cfg → P s →
    P { s with table := RoofTable.joining cfg }
  record : ∀ (s : State) (cfg : ConfigRecord), P s →
    P { s with config := some cfg, table.ceiling := cfg.ceiling }
  reset : P State.reset

namespace State.QueueKept

variable {P : State → Prop}

theorem blind (k : State.QueueKept P) : State.Blind P where
  plant _ _ _ _ h := k.core h {}
  request := k.request
  shed := k.shed

/-! ## The plant -/

theorem raise (k : State.QueueKept P) {s : State} (c : Category) (h : P s) : P (s.raise c) :=
  k.core h ⟨by simp, by simp, by simp⟩

theorem staged (k : State.QueueKept P) {s t : State} (h : P s) (e : t = { s with stage := t.stage }) :
    P t := k.blind.stage h e

theorem trip (k : State.QueueKept P) (i : Slot) (cause : Category) (s : State) (h : P s) :
    P (s.trip i cause) := by
  unfold State.trip
  split
  · dsimp only
    split
    · exact k.raise _ (k.raise _ (k.core h {}))
    · exact k.raise _ (k.core h {})
  · exact h

theorem evaluated (k : State.QueueKept P) {s : State} (cause : EvalCause) (h : P s) :
    P (s.evaluate cause) := State.evaluate_keeps k.blind.keeps s cause h

theorem moved (k : State.QueueKept P) {s : State} (before : State) (h : P s) :
    P (s.stagesMoved before) := State.stagesMoved_keeps k.blind.keeps s before h

theorem allMoved (k : State.QueueKept P) {move : State → Slot → State}
    (hm : ∀ (s : State) (i : Slot), P s → P (move s i)) (slots : List Slot) {s : State} (h : P s) :
    P (s.moveAll move slots) := State.moveAll_keeps k.blind.keeps move hm slots s h

theorem started (k : State.QueueKept P) {s : State} (before : State) (h : P s) :
    P (s.settleStarts before) := State.settleStarts_keeps k.blind.keepsStarts s before h

theorem driven (k : State.QueueKept P) {s : State} (h : P s) : P s.drivePins := k.core h {}

theorem settled (k : State.QueueKept P) {s : State} (before : State) (h : P s) :
    P (s.settleInto before) := k.driven (k.started before h)

theorem coilDelivered (k : State.QueueKept P) {s : State} (n : Circuit) (h : P s) :
    P (s.coilDelivered n) := by
  unfold State.coilDelivered
  split
  · split
    · exact k.staged h (s.testFreeze_eq n)
    · exact k.core h {}
  · exact k.core h {}

theorem fanProve (k : State.QueueKept P) {s : State} (h : P s) : P s.fanProveOn ∧ P s.fanProveOff := by
  unfold State.fanProveOn State.fanProveOff
  constructor <;> split <;> exact k.core h {}

theorem highPressure (k : State.QueueKept P) {s : State} (n : Circuit) (cause : Category) (h : P s) :
    P (s.highPressure n cause) := by
  unfold State.highPressure
  split
  · exact k.trip _ cause s h
  · exact k.raise cause h

theorem lowPressure (k : State.QueueKept P) {s : State} (n : Circuit) (cause : Category) (h : P s) :
    P (s.lowPressure n cause) := by
  unfold State.lowPressure
  split
  · exact k.trip _ cause s h
  · exact k.trip _ cause s h
  · exact h

theorem proveHeat (k : State.QueueKept P) (s : State) (i : Slot) (h : P s) : P (s.proveHeat i) := by
  unfold State.proveHeat
  split
  · exact k.core h {}
  · exact h

theorem losesHeatProve (k : State.QueueKept P) (s : State) (i : Slot) (h : P s) :
    P (s.losesHeatProve i) := by
  unfold State.losesHeatProve
  split
  · exact k.trip i _ s h
  · exact k.trip i _ s h
  · exact h

theorem stageActivated (k : State.QueueKept P) {s : State} (r : InputRole) (h : P s) :
    P (s.stageActivated r) := by
  cases r with
  | fanProve => exact (k.fanProve h).1
  | hp1 | hp2 => exact k.moved s (k.highPressure _ _ h)
  | lp1 | lp2 => exact k.moved s (k.lowPressure _ _ h)
  | heatProve => exact k.allMoved k.proveHeat _ h
  | occ | smoke | filter => exact h

theorem stageDeactivated (k : State.QueueKept P) {s : State} (r : InputRole) (h : P s) :
    P (s.stageDeactivated r) := by
  cases r with
  | fanProve => exact (k.fanProve h).2
  | heatProve => exact k.allMoved k.losesHeatProve _ h
  | occ | smoke | filter | hp1 | hp2 | lp1 | lp2 => exact h

theorem stops (k : State.QueueKept P) (s : State) (i : Slot) (h : P s) : P (s.stopSlot i) :=
  k.staged h (s.stopSlot_eq i)

theorem failFanProof (k : State.QueueKept P) {s : State} (h : P s) : P s.failFanProof := by
  have failed : P { s with stage.fanProof := .failed, stage.fanProofTimer := none } := k.core h {}
  unfold State.failFanProof
  exact k.raise .fanProve (k.allMoved k.stops allSlots failed)

theorem freeSlot (k : State.QueueKept P) {s : State} (i : Slot) (h : P s) : P (s.freeSlot i) :=
  State.serveWanted_keeps k.blind.keeps 4 _ _ (State.moveEach_keeps k.blind.keeps _ k.stops _ _
    (State.reportMove_keeps k.blind.keeps _ s (k.core h {})))

theorem settleClaim (k : State.QueueKept P) {s : State} (c : OpenClaim) (h : P s) :
    P (s.settleClaim c) := by
  have closed : P s.closeClaim := k.request _ false (k.core h {})
  unfold State.settleClaim
  split
  · exact k.moved s (k.core closed {})
  · split
    · exact k.moved s (k.blind.grant _ c.slot c.intended closed)
    · exact k.moved s (k.core closed {})

/-! ## The sensors -/

theorem heatLimit (k : State.QueueKept P) {s : State} (h : P s) : P s.heatLimit := by
  unfold State.heatLimit
  split
  · split
    · exact k.allMoved (fun s i => k.trip i .heatLimit s) _ h
    · exact h
  · exact h

theorem deliverResult (k : State.QueueKept P) {s : State} (ch : Channel) (h : P s) :
    P (s.deliverResult ch) := by
  unfold State.deliverResult
  split
  · exact k.coilDelivered _ h
  · dsimp only
    split
    · exact k.heatLimit (k.evaluated .plain h)
    · exact k.evaluated .plain h

theorem deliverChange (k : State.QueueKept P) {s : State} (ch : Channel) (h : P s) :
    P (s.deliverChange ch) := by
  unfold State.deliverChange
  split
  · exact k.coilDelivered _ h
  · exact k.evaluated .plain h

theorem deliverChanges (k : State.QueueKept P) {s : State} (before : State) (h : P s) :
    P (s.deliverChanges before) := by
  unfold State.deliverChanges
  refine List.foldlRecOn _ _ h fun t ht ch _ => ?_
  split
  · exact ht
  · exact k.deliverChange ch ht

theorem referenceCheck (k : State.QueueKept P) {s : State} (h : P s) : P s.referenceCheck := by
  unfold State.referenceCheck
  dsimp only
  split
  · split
    · exact k.deliverChanges _ (k.raise .refCheck (k.core h {}))
    · exact k.core h {}
  · split
    · exact k.deliverChanges _ (k.core h {})
    · exact k.core h {}

theorem externalComplete (k : State.QueueKept P) {s : State} (ch : Channel) (code : BitVec 12)
    (h : P s) : P (s.externalComplete ch code) := by
  unfold State.externalComplete
  dsimp only
  split
  · exact h
  · split
    · exact k.core h {}
    · refine k.deliverResult ch ?_
      split
      · exact k.raise _ (k.core h {})
      · exact k.core h {}

theorem complete (k : State.QueueKept P) {s : State} (c : Conversion) (code : BitVec 12) (h : P s) :
    P (s.complete c code) := by
  cases c with
  | refHigh => exact k.core h {}
  | refLow => exact k.referenceCheck (k.core h {})
  | external ch => exact k.externalComplete ch code h

/-! ## Station control -/

/-- R32: a change of station state drops the SHED at most. -/
theorem setStation (k : State.QueueKept P) {s : State} (new : StationState) (cause : IsolationCause)
    (h : P s) : P (s.setStation new cause) := by
  unfold State.setStation
  dsimp only
  split
  · exact k.core (k.drop s h) {}
  · exact k.core h {}

theorem isolate (k : State.QueueKept P) {s : State} (cause : IsolationCause) (h : P s) :
    P (s.enterIsolated cause) :=
  s.enterIsolated_of cause (fun _ => k.raise _)
    (k.blind.isolatedQuietly s cause (k.setStation _ _ h))

theorem shutdown (k : State.QueueKept P) {s : State} (h : P s) : P s.enterShutdown :=
  k.blind.enterShutdown s (k.setStation _ _ h)

theorem work (k : State.QueueKept P) {s : State} (new : StationState) (h : P s) :
    P (s.enterWorking new) :=
  k.blind.entryEnd _ s (k.setStation _ _ h)

theorem returnToSharing (k : State.QueueKept P) {s : State} (holds : Bool) (h : P s) :
    P (s.returnToSharing holds) := by
  unfold State.returnToSharing
  split
  · exact k.work .sharing h
  · exact h

theorem leaveShutdown (k : State.QueueKept P) {s : State} (h : P s) : P s.leaveShutdown := by
  unfold State.leaveShutdown
  repeat' split
  · exact k.isolate _ h
  · exact k.work _ h
  · exact k.isolate _ h
  · exact k.isolate _ h
  · exact k.work _ h

theorem joinDecision (k : State.QueueKept P) {s : State} (h : P s) : P s.joinDecision := by
  unfold State.joinDecision
  repeat' split
  · exact k.shutdown h
  · exact k.work _ h
  · exact k.isolate _ h
  · exact k.work _ h
  · exact k.isolate _ h

theorem smokeActive (k : State.QueueKept P) {s : State} (h : P s) : P s.smokeActive := by
  unfold State.smokeActive
  split
  · exact k.shutdown h
  · exact h

theorem smokeCleared (k : State.QueueKept P) {s : State} (h : P s) : P s.smokeCleared := by
  unfold State.smokeCleared
  split
  · exact k.leaveShutdown h
  · exact h

theorem dropReported (k : State.QueueKept P) {s : State} (h : P s) : P s.dropReported := by
  unfold State.dropReported
  split
  · refine k.raise .linkTx ?_
    cases s.station.state with
    | sharing => exact k.isolate .transmit h
    | isolated =>
      dsimp only
      split
      · exact k.core h {}
      · exact h
    | config | joining | solo | shutdown | left => exact h
  · exact h

theorem duplicateFound (k : State.QueueKept P) {s : State} (h : P s) : P s.duplicateFound := by
  unfold State.duplicateFound
  cases s.station.state with
  | joining | sharing | solo => exact k.raise _ (k.isolate .duplicate (k.core h {}))
  | isolated | shutdown => exact k.raise _ (k.core h {})
  | left | config => exact h

/-! ## Inputs -/

theorem modeHears (k : State.QueueKept P) {s : State} (r : InputRole) (h : P s) :
    P (s.modeHears r) := by
  unfold State.modeHears
  split
  · exact k.evaluated .plain h
  · exact h

theorem raiseInput (k : State.QueueKept P) {s : State} (r : InputRole) (e : InputEvent) (h : P s) :
    P (s.raiseInput r e) := by
  unfold State.raiseInput
  split
  · split
    · exact k.raise _ h
    · exact h
  · exact h

theorem deliverInput (k : State.QueueKept P) {s : State} (r : InputRole) (e : InputEvent) (h : P s) :
    P (s.deliverInput r e) := by
  cases e with
  | none => exact h
  | activated =>
    simp only [State.deliverInput]
    split
    · exact k.smokeActive (k.modeHears r (k.stageActivated r h))
    · exact k.modeHears r (k.stageActivated r h)
  | deactivated =>
    simp only [State.deliverInput]
    split
    · exact k.smokeCleared (k.modeHears r (k.stageDeactivated r h))
    · exact k.modeHears r (k.stageDeactivated r h)
  | settled active =>
    simp only [State.deliverInput]
    split
    · exact k.smokeActive h
    · exact h

/-! ## Faults, calls and answers -/

theorem entryChanged (k : State.QueueKept P) {s : State} (marked : Bool) (h : P s) :
    P (s.entryChanged marked) := by
  unfold State.entryChanged
  split
  · exact k.evaluated .neighbourUpdate h
  · exact h

theorem respondShed (k : State.QueueKept P) {s : State} (caller : Nat) (call : ShedCall) (h : P s) :
    P (s.respondShed caller call) := by
  unfold State.respondShed
  dsimp only
  split
  · split
    · exact k.moved s (k.stops s _ h)
    · exact h
  · exact h

theorem clearFaults (k : State.QueueKept P) {s : State} (set : BitVec 24) (h : P s) :
    P (s.clearFaults set) := by
  unfold State.clearFaults
  split
  · exact h
  · exact List.foldlRecOn _ _ (k.core h {}) fun t ht c _ => k.raise c ht

theorem unlockSlot (k : State.QueueKept P) {s : State} (i : Slot) (h : P s) : P (s.unlockSlot i) :=
  k.settled s (k.moved s (k.core h {}))

theorem answered (k : State.QueueKept P) {s : State} (code : Nat) (result : ServiceResult)
    (payload : List Byte) (h : P s) : P (s.answer code result payload) := k.core h {}

/-! ## The wrappers -/

theorem event (k : State.QueueKept P) {s : State} {occurs : Bool} {effect : State → State}
    (h : P s) (he : occurs = true → P (effect s)) : Gives P (s.event occurs effect) :=
  gives_ite h fun hb => k.settled s (he (Bool.and_eq_true_iff.1 hb).2)

theorem inner {s : State} {occurs : Bool} {effect : State → State} (h : P s)
    (he : occurs = true → P (effect s)) : Gives P (s.innerEvent occurs effect) :=
  gives_ite h fun hb => he (Bool.and_eq_true_iff.1 hb).2

theorem silent (k : State.QueueKept P) {s : State} {occurs : Bool} {effect : State → State}
    (h : P s) (he : occurs = true → P (effect s)) : Gives P (s.quietEvent occurs effect) :=
  gives_ite h fun hb => k.driven (he (Bool.and_eq_true_iff.1 hb).2)

theorem requested (k : State.QueueKept P) {s : State} {handle : State → State} (h : P s)
    (hr : ∀ t : State, P t → P (handle t)) : Gives P (s.request handle) := by
  have hunt : P { s with svc.rx := .hunt } := k.core h {}
  refine gives_ite h fun _ => ?_
  split
  · exact hunt
  · exact hr _ hunt

end State.QueueKept

namespace State.RoofKept

variable {P : State → Prop}

/-! ## The link and the table -/

/-- A frame of another station, completed, at the receiver and at station control. -/
theorem hearFrame (k : State.RoofKept P) {s : State} (h : P s) :
    P (State.hearOther { s with link := s.link.complete }) :=
  k.returnToSharing _ (k.core (k.quiet s s.link.complete { backoff := .inr rfl } h) {})

theorem entryWritten (k : State.RoofKept P) {s : State} (n : Nat) (e : Entry) (marked : Bool)
    (he : (s.entry n).ClaimHeard → e.ClaimHeard) (h : P s) :
    P (((s.setEntry n e).recomputeCeiling).entryChanged marked) :=
  k.entryChanged marked (k.ceiling _ (k.entry s n e he h))

theorem takeState (k : State.RoofKept P) {s : State} (n : Nat) (f : StateFrame) (h : P s) :
    P (s.takeState n f) := by
  unfold State.takeState
  dsimp only
  split
  · exact k.request _ false (k.entryWritten n _ _ (fun _ _ => rfl) (k.hearFrame h))
  · exact k.entryWritten n _ _ (fun _ _ => rfl) (k.hearFrame h)

theorem takeLeave (k : State.RoofKept P) {s : State} (n : Nat) (h : P s) : P (s.takeLeave n) := by
  unfold State.takeLeave
  dsimp only
  split
  · exact k.hearFrame h
  · exact k.entryWritten n _ _ (fun _ => nofun) (k.hearFrame h)

theorem takeShed (k : State.RoofKept P) {s : State} (n : Nat) (call : ShedCall) (h : P s) :
    P (s.takeShed n call) := by
  unfold State.takeShed
  dsimp only
  split
  · exact k.respondShed n call (k.hearFrame h)
  · exact k.hearFrame h

theorem sendFrame (k : State.RoofKept P) {s : State} {w : WireFrame} (wire : s.link.onWire = some w)
    (h : P s) : P (s.sendFrame w) := by
  rw [State.sendFrame_eq]
  exact k.returnToSharing _ (k.sent s w wire h)

/-! ## Station life -/

theorem enterLeft (k : State.RoofKept P) {s : State} (h : P s) : P s.enterLeft := by
  rw [State.enterLeft_eq]
  exact State.entered_keeps k.blind.keeps _ s (k.leave _ (k.blind.admissionIdle _
    (State.stopAll_keeps k.blind.keeps _ (k.setStation _ _ h))))

theorem enterJoining (k : State.RoofKept P) {s : State} {cfg : ConfigRecord}
    (hc : s.config = some cfg) (h : P s) : P (s.enterJoining cfg) := by
  have opened : P { s with
      table := RoofTable.joining cfg, link := (s.joiningQuietly cfg).link } :=
    k.quiet { s with table := RoofTable.joining cfg } _ {} (k.join s cfg hc h)
  have joined : P (s.joiningQuietly cfg) := k.core opened {}
  rw [State.enterJoining_eq]
  exact k.evaluated .plain (k.request _ true joined)

theorem doRestart (k : State.RoofKept P) {s : State} (h : P s) : P s.doRestart := by
  rw [State.doRestart_eq]
  split
  · rename_i hc
    exact k.enterJoining hc (k.restarted s h)
  · exact k.restarted s h

theorem takeRecord (k : State.RoofKept P) {s : State} (cfg : ConfigRecord) (h : P s) :
    P (s.takeRecord cfg) :=
  k.core (k.record s cfg h) {}

end State.RoofKept

end Sys2Proof.Machine

/-! # The commands, of a law of the link, the table and the record -/

namespace Sys2Proof.Machine

namespace State.RoofKept

variable {P : State → Prop}

/-! ## The requests -/

theorem execConfigure (k : State.RoofKept P) (record : List Byte) {s : State} (h : P s) :
    Gives P (execConfigure record s) := by
  refine k.requested h fun s h => ?_
  split
  · exact k.answered _ _ _ h
  · split
    · exact k.answered _ _ _ h
    · split
      · exact k.answered _ _ _ h
      · exact k.answered _ _ _ (k.driven (k.takeRecord _ h))

theorem execStart (k : State.RoofKept P) {s : State} (h : P s) : Gives P (execStart s) := by
  refine k.requested h fun s h => ?_
  split
  · rename_i hc
    exact k.answered _ _ _ (k.settled s (k.enterJoining hc h))
  · exact k.answered _ _ _ h

theorem execReadEntry (k : State.RoofKept P) (n : Byte) {s : State} (h : P s) :
    Gives P (execReadEntry n s) := by
  refine k.requested h fun s h => ?_
  split <;> exact k.answered _ _ _ h

theorem execClear (k : State.RoofKept P) (set : BitVec 24) {s : State} (h : P s) :
    Gives P (execClear set s) := by
  refine k.requested h fun s h => ?_
  split
  · exact k.answered _ _ _ h
  · exact k.answered _ _ _ (k.driven (k.clearFaults set h))

theorem execUnlock (k : State.RoofKept P) (code : Byte) {s : State} (h : P s) :
    Gives P (execUnlock code s) := by
  refine k.requested h fun s h => ?_
  split
  · exact k.answered _ _ _ h
  · split
    · split
      · exact k.answered _ _ _ (k.unlockSlot _ h)
      · exact k.answered _ _ _ h
    · exact k.answered _ _ _ h

theorem execLeave (k : State.RoofKept P) {s : State} (h : P s) : Gives P (execLeave s) := by
  refine k.requested h fun s h => ?_
  have left := k.answered 0x31 .ok [] (k.settled s (k.enterLeft h))
  cases s.station.state with
  | sharing | isolated | solo | shutdown => exact left
  | config | joining | left => exact k.answered _ _ _ h

theorem execRollcall (k : State.RoofKept P) {s : State} (h : P s) : Gives P (execRollcall s) := by
  refine k.requested h fun s h => ?_
  split
  · exact k.answered _ _ _ (k.request s true h)
  · exact k.answered _ _ _ h

theorem execLinkTest (k : State.RoofKept P) (mask : BitVec 16) (count : Byte) {s : State}
    (h : P s) : Gives P (execLinkTest mask count s) := by
  refine k.requested h fun s h => ?_
  split
  · exact k.answered _ _ _ h
  · split
    · exact k.answered _ _ _ h
    · exact k.answered _ _ _
        (k.quiet s { s.link with testMask := mask, testCount := count.toNat } {} h)

theorem execUnknownRequest (k : State.RoofKept P) (code : Byte) (payload : List Byte) {s : State}
    (h : P s) : Gives P (execUnknownRequest code payload s) := by
  unfold Machine.execUnknownRequest
  split
  · exact gives_next h
  · exact k.requested h fun s h => k.answered _ _ _ h

theorem execServiceResponseEnd (k : State.RoofKept P) {s : State} (h : P s) :
    Gives P (execServiceResponseEnd s) := by
  unfold Machine.execServiceResponseEnd
  have ended : P { s with svc.buffer := .empty } := k.core h {}
  split
  · exact gives_next h
  · split
    · exact k.event h fun _ => k.doRestart ended
    · exact State.QueueKept.inner h fun _ => ended

/-! ## The roof link -/

theorem execStateReceived (k : State.RoofKept P) (frame : List Byte) {s : State} (h : P s) :
    Gives P (execStateReceived frame s) := by
  unfold Machine.execStateReceived
  split
  · exact k.event h fun _ => k.takeState _ _ h
  · exact gives_next h

theorem execShedReceived (k : State.RoofKept P) (frame : List Byte) {s : State} (h : P s) :
    Gives P (execShedReceived frame s) := by
  unfold Machine.execShedReceived
  split
  · exact k.event h fun _ => k.takeShed _ _ h
  · exact gives_next h

theorem execLeaveReceived (k : State.RoofKept P) (frame : List Byte) {s : State} (h : P s) :
    Gives P (execLeaveReceived frame s) := by
  unfold Machine.execLeaveReceived
  split
  · exact k.event h fun _ => k.takeLeave _ h
  · exact gives_next h

/-- A frame complete at the receiver. -/
theorem completed (k : State.RoofKept P) {s : State} (h : P s) :
    P { s with link := s.link.complete } :=
  k.quiet s s.link.complete { backoff := .inr rfl } h

theorem execOwnEcho (k : State.RoofKept P) (frame : List Byte) {s : State} (h : P s) :
    Gives P (execOwnEcho frame s) := by
  unfold Machine.execOwnEcho
  split
  · exact State.QueueKept.inner h fun _ => k.completed h
  · exact gives_next h

theorem execDuplicateDetected (k : State.RoofKept P) (frame : List Byte) {s : State} (h : P s) :
    Gives P (execDuplicateDetected frame s) := by
  unfold Machine.execDuplicateDetected
  split
  · exact k.event h fun _ => k.duplicateFound (k.completed h)
  · exact gives_next h

theorem execAttemptFailed (k : State.RoofKept P) (cause : ReadBackFailure) {s : State} (h : P s) :
    Gives P (execAttemptFailed cause s) := by
  unfold Machine.execAttemptFailed
  split
  · rename_i w wire
    exact k.event h fun _ => k.failed s w wire h
  · exact gives_next h

theorem execFrameSent (k : State.RoofKept P) {s : State} (h : P s) :
    Gives P (execFrameSent s) := by
  unfold Machine.execFrameSent
  split
  · rename_i w wire
    exact k.event h fun _ => k.sendFrame wire h
  · exact gives_next h

/-! ## Timers and conversions -/

theorem execSilenceExpiry (k : State.RoofKept P) {s : State} (h : P s) :
    Gives P (execSilenceExpiry s) := by
  refine k.event h fun _ => ?_
  have stopped : P { s with station.silence := none } := k.core h {}
  dsimp only
  split
  · exact k.isolate .silent stopped
  · exact stopped

theorem execSettleExpiry (k : State.RoofKept P) {s : State} (h : P s) :
    Gives P (execSettleExpiry s) := by
  unfold Machine.execSettleExpiry
  split
  · exact k.event h fun _ => k.settleClaim _ h
  · exact gives_next h

theorem execFanProofExpiry (k : State.RoofKept P) {s : State} (h : P s) :
    Gives P (execFanProofExpiry s) := by
  refine k.event h fun _ => ?_
  split
  · split
    · exact k.core h {}
    · exact k.failFanProof h
  · exact k.failFanProof h
  all_goals exact h

theorem execProveExpiry (k : State.RoofKept P) (i : Slot) {s : State} (h : P s) :
    Gives P (execProveExpiry i s) := by
  refine k.event h fun _ => ?_
  split
  · exact k.moved s (k.trip i _ s h)
  · exact k.moved s (k.core h {})

theorem execConversionComplete (k : State.RoofKept P) (code : BitVec 12) {s : State} (h : P s) :
    Gives P (execConversionComplete code s) := by
  unfold Machine.execConversionComplete
  split
  · exact k.event h fun _ => k.complete _ code (k.core h {})
  · exact gives_next h

theorem execInputSample (k : State.RoofKept P) (r : InputRole) (pinHigh : Bool) {s : State}
    (h : P s) : Gives P (execInputSample r pinHigh s) := by
  refine gives_ite h fun _ => k.driven (k.raiseInput r _ (k.started s (k.deliverInput r _ ?_)))
  exact k.core h {}

/-! ## Every command -/

theorem exec (k : State.RoofKept P) (c : Instr) {s : State} (h : P s) : Gives P (exec c s) := by
  unfold Machine.exec
  cases c with
  | powerUp => exact gives_next (k.core k.reset {})
  | supplyOutOfRange =>
    have cut : P { s with link := { s.link with onWire := none, cutOff := false } } :=
      k.quiet s _ { onWire := .inr rfl } h
    exact gives_next (k.core cut {})
  | restart => exact k.event h fun _ => k.doRestart h
  | joinExpiry => exact k.event h fun _ => k.joinDecision (k.core h {})
  | silenceExpiry => exact k.execSilenceExpiry h
  -- Service requests
  | configure record => exact k.execConfigure record h
  | start => exact k.execStart h
  | readEntry n => exact k.execReadEntry n h
  | readStatus | readFaults | serviceRestart => exact k.requested h fun _ h => k.core h {}
  | clear set => exact k.execClear set h
  | unlock code => exact k.execUnlock code h
  | leave => exact k.execLeave h
  | rollcall => exact k.execRollcall h
  | linkTest mask count => exact k.execLinkTest mask count h
  | unknownRequest code payload => exact k.execUnknownRequest code payload h
  | serviceResponseEnd => exact k.execServiceResponseEnd h
  -- The receiver
  | linkIdle =>
    exact State.QueueKept.inner h fun _ => k.serve _ (k.quiet s { s.link with
      idle := true, afterFrame := false
      rx := if s.link.rx = .discard then .hunt else s.link.rx } {} h)
  | receiveAbort | frameRejected | charactersAfterFrame | frameStartCharacter
  | backoffAbandoned =>
    exact State.QueueKept.inner h fun _ => k.quiet s _ { backoff := .inr rfl } h
  | ownEcho frame => exact k.execOwnEcho frame h
  -- Frames and attempts
  | stateReceived frame => exact k.execStateReceived frame h
  | shedReceived frame => exact k.execShedReceived frame h
  | leaveReceived frame => exact k.execLeaveReceived frame h
  | duplicateDetected frame => exact k.execDuplicateDetected frame h
  | attemptBegin => exact k.silent h fun hb => k.attempt s hb h
  | attemptFailed cause => exact k.execAttemptFailed cause h
  | frameSent => exact k.execFrameSent h
  | cutOffFrameRelease =>
    exact k.silent h fun _ => k.serve _ (k.quiet s s.link.release { onWire := .inr rfl } h)
  | spacingExpiry =>
    exact State.QueueKept.inner h fun _ =>
      k.serve _ (k.quiet s { s.link with spacing := none } {} h)
  | reportTimerExpiry =>
    exact State.QueueKept.inner h fun _ =>
      k.request _ false (k.quiet s { s.link with report := some reportPeriod } {} h)
  -- Entries of the roof table
  | freshnessExpiry n =>
    exact k.event h fun _ => k.entryWritten n _ _ Entry.age_claimHeard h
  | claimHoldExpiry n =>
    exact k.event h fun _ => k.entryChanged _ (k.entry s n _ (fun _ => nofun) h)
  -- Timers of the other blocks
  | settleExpiry => exact k.execSettleExpiry h
  | holdoffExpiry | shedWaitExpiry | interStageExpiry => exact k.event h fun _ => k.core h {}
  | changeoverExpiry | offDelayExpiry | fullOpenExpiry | damperTimerExpiry =>
    exact k.event h fun _ => k.evaluated _ (k.core h {})
  | fanProofExpiry => exact k.execFanProofExpiry h
  | proveExpiry i => exact k.execProveExpiry i h
  | minRunExpiry i => exact k.event h fun _ => k.freeSlot i h
  | minOffExpiry i | tripDelayExpiry i => exact k.event h fun _ => k.moved s (k.core h {})
  | freezeExpiry n => exact k.event h fun _ => k.moved s (k.trip _ _ _ (k.core h {}))
  -- Conversions and samples
  | conversionComplete code => exact k.execConversionComplete code h
  | inputSample r pinHigh => exact k.execInputSample r pinHigh h
  -- Events that write their own block alone
  | secondsTick | requestDiscardedBusy | serviceFrameBadCrc | serviceFrameAbort | shedSpacingExpiry
  | pwmPeriodStart | scanTimerExpiry | serviceStartCharacter | serviceLengthZero =>
    exact State.QueueKept.inner h fun _ => k.core h {}

theorem step (k : State.RoofKept P) {s t : State} (h : P s) (hst : step s = .next t) : P t := by
  unfold Machine.step at hst
  split at hst
  · cases hst
    exact h
  · rename_i c rest _
    exact k.exec c (s := { s with pending := rest }) (k.core h {}) t hst

end State.RoofKept

end Sys2Proof.Machine

/-! # The laws of the transmit queue and the roof table (R30, R35, R36, R54, R61) -/

namespace Sys2Proof.Machine

/-! ## One slot CURRENT at most -/

/-- R30, R36: the law of the queue but for the backoff count, which a served queue has anyway. -/
structure Link.SlotsLaw (l : Link) : Prop where
  one : l.currentCount ≤ 1
  counted : l.busy = true → 1 ≤ l.attempts ∧ l.attempts ≤ 8
  clear : l.busy = false → l.attempts = 0 ∧ l.onWire = none

theorem SlotState.current_toNat (a : SlotState) :
    (a == .current).toNat = if a = .current then 1 else 0 := by cases a <;> rfl

theorem Link.currentCount_eq (l : Link) : l.currentCount =
    (if l.leaveSlot = .current then 1 else 0) + (if l.shedSlot = .current then 1 else 0) +
      (if l.stateSlot = .current then 1 else 0) := by
  simp only [Link.currentCount, SlotState.current_toNat]

theorem Link.busy_iff (l : Link) : l.busy = true ↔
    l.leaveSlot = .current ∨ l.shedSlot = .current ∨ l.stateSlot = .current := by
  simp [Link.busy, or_assoc]

theorem Link.currentCount_pos (l : Link) : 1 ≤ l.currentCount ↔ l.busy = true := by
  rw [Link.busy_iff, Link.currentCount_eq]
  split <;> split <;> split <;> simp_all

theorem Link.queueLaw_iff (l : Link) : l.queueLaw = true ↔
    l.SlotsLaw ∧ (l.busy = false → l.backoff = none) := by
  have pos := l.currentCount_pos
  unfold Link.queueLaw
  by_cases one : l.currentCount = 1
  · have busy : l.busy = true := pos.1 (by omega)
    rw [if_pos one]
    simp only [Bool.and_eq_true, decide_eq_true_eq]
    exact ⟨fun ⟨_, counted⟩ => ⟨⟨by omega, fun _ => counted, by simp [busy]⟩, by simp [busy]⟩,
      fun ⟨law, _⟩ => ⟨law.one, law.counted busy⟩⟩
  · rw [if_neg one]
    simp only [Bool.and_eq_true, decide_eq_true_eq, beq_iff_eq, Option.isNone_iff_eq_none]
    constructor
    · rintro ⟨most, ⟨attempts, backoff⟩, wire⟩
      have free : ¬ l.busy = true := by rw [← pos]; omega
      exact ⟨⟨most, fun h => absurd h free, fun _ => ⟨attempts, wire⟩⟩, fun _ => backoff⟩
    · rintro ⟨law, backoff⟩
      have most := law.one
      have free : l.busy = false := by rw [← Bool.not_eq_true, ← pos]; omega
      exact ⟨most, ⟨(law.clear free).1, backoff free⟩, (law.clear free).2⟩

/-- The same slots are CURRENT, at the same attempt count; the wire is as before, or is clear. -/
structure Link.SameCurrent (l k : Link) : Prop where
  leave : k.leaveSlot = .current ↔ l.leaveSlot = .current := by rfl
  shed : k.shedSlot = .current ↔ l.shedSlot = .current := by rfl
  state : k.stateSlot = .current ↔ l.stateSlot = .current := by rfl
  attempts : k.attempts = l.attempts := by rfl
  onWire : k.onWire = l.onWire ∨ k.onWire = none := by exact .inl rfl

theorem Link.Quiets.sameCurrent {l k : Link} (q : l.Quiets k) : l.SameCurrent k :=
  ⟨by rw [q.leave], by rw [q.shed], by rw [q.state], q.attempts, q.onWire⟩

theorem Link.SameCurrent.busy {l k : Link} (c : l.SameCurrent k) : k.busy = l.busy := by
  rw [Bool.eq_iff_iff, Link.busy_iff, Link.busy_iff, c.leave, c.shed, c.state]

theorem Link.SlotsLaw.same {l k : Link} (h : l.SlotsLaw) (c : l.SameCurrent k) : k.SlotsLaw where
  one := by
    rw [Link.currentCount_eq]
    simp only [c.leave, c.shed, c.state]
    rw [← Link.currentCount_eq]
    exact h.one
  counted hb := by
    rw [c.attempts]
    exact h.counted (c.busy ▸ hb)
  clear hb := by
    obtain ⟨attempts, wire⟩ := h.clear (c.busy ▸ hb)
    exact ⟨c.attempts.trans attempts, c.onWire.elim (·.trans wire) id⟩

theorem Link.queueLaw_same {l k : Link} (h : l.queueLaw = true) (c : l.SameCurrent k)
    (backoff : k.backoff = l.backoff ∨ k.backoff = none := by exact .inl rfl) :
    k.queueLaw = true := by
  rw [Link.queueLaw_iff] at h ⊢
  exact ⟨h.1.same c, fun hb => backoff.elim (·.trans (h.2 (c.busy ▸ hb))) id⟩

/-- A queue with no slot CURRENT. -/
theorem Link.SlotsLaw.free {l : Link} (free : ¬ l.busy = true) (attempts : l.attempts = 0)
    (wire : l.onWire = none) : l.SlotsLaw where
  one := by
    have pos := l.currentCount_pos
    have none : ¬ 1 ≤ l.currentCount := fun h => free (pos.1 h)
    omega
  counted hb := absurd hb free
  clear _ := ⟨attempts, wire⟩

/-- With one slot CURRENT no other is. -/
theorem Link.SlotsLaw.apart {l : Link} (h : l.SlotsLaw) :
    (l.leaveSlot = .current → l.shedSlot ≠ .current ∧ l.stateSlot ≠ .current) ∧
      (l.shedSlot = .current → l.leaveSlot ≠ .current ∧ l.stateSlot ≠ .current) ∧
      (l.stateSlot = .current → l.leaveSlot ≠ .current ∧ l.shedSlot ≠ .current) := by
  have one := h.one
  rw [Link.currentCount_eq] at one
  split at one <;> split at one <;> split at one <;> simp_all

/-! ## Selection and the backoff count -/

/-- R30: a queue in which one waits needs no count of its own: the one that becomes CURRENT starts
at 1. -/
theorem Link.select_slotsLaw {l : Link}
    (h : l.SlotsLaw ∨ ¬ l.busy = true ∧ l.leaveSlot = .queued) : l.select.SlotsLaw := by
  unfold Link.select
  split
  · rename_i busy
    exact h.resolve_right fun ⟨free, _⟩ => free busy
  · rename_i free
    obtain ⟨leave, shed, state⟩ := Link.busy_eq_false free
    have started {k : Link} (one : k.currentCount = 1) (attempts : k.attempts = 1) : k.SlotsLaw :=
      ⟨one.le, fun _ => by omega, fun idle => by
        rw [k.currentCount_pos.1 one.ge] at idle
        cases idle⟩
    split
    · exact started (by simp [Link.currentCount_eq, shed, state]) rfl
    · rename_i noLeave
      split
      · exact started (by simp [Link.currentCount_eq, leave, state]) rfl
      · split
        · exact started (by simp [Link.currentCount_eq, leave, shed]) rfl
        · exact h.resolve_right fun ⟨_, queued⟩ => noLeave queued

/-- R35: no backoff runs with no slot CURRENT. -/
theorem Link.count_queueLaw {l : Link} (n : Nat) (h : l.SlotsLaw) :
    (l.count n).queueLaw = true := by
  have same : l.SameCurrent (l.count n) := by
    rw [Link.count_eq]
    exact {}
  have running := Link.count_running n l
  refine (Link.queueLaw_iff _).2 ⟨h.same same, fun free => ?_⟩
  rw [← same.busy, free] at running
  simpa using running

theorem Link.serve_queueLaw {l : Link} (n : Nat) (h : l.SlotsLaw) :
    (l.select.count n).queueLaw = true :=
  Link.count_queueLaw n (Link.select_slotsLaw (.inl h))

/-! ## Requests, and slots emptied -/

theorem Link.requestState_same (l : Link) (roll : Bool) : l.SameCurrent (l.requestState roll) := by
  unfold Link.requestState
  split
  · rename_i empty
    exact { state := by simp [empty] }
  · exact {}
  · repeat' split
    all_goals exact {}

/-- R31: a STATE request leaves the law as it found it. -/
theorem State.requestState_slotsLaw {s : State} (roll : Bool) (h : s.link.SlotsLaw) :
    (s.requestState roll).link.SlotsLaw := by
  unfold State.requestState
  split
  · exact ((Link.queueLaw_iff _).1 (Link.serve_queueLaw s.number
      (h.same (s.link.requestState_same roll)))).1
  · exact h

theorem State.requestState_queueLaw {s : State} (roll : Bool) (h : s.link.queueLaw = true) :
    (s.requestState roll).link.queueLaw = true := by
  unfold State.requestState
  split
  · exact Link.serve_queueLaw s.number
      (((Link.queueLaw_iff _).1 h).1.same (s.link.requestState_same roll))
  · exact h

/-- R32: what a SHED request makes of the slots: with one CURRENT the values are held, else one is
QUEUED and the queue served. -/
theorem State.requestShed_cases (s : State) (call : ShedCall) :
    (s.link.SameCurrent (s.requestShed call).link ∧
        (s.requestShed call).link.backoff = s.link.backoff) ∨
      ∃ l : Link, s.link.SameCurrent l ∧ (s.requestShed call).link = l.select.count s.number := by
  unfold State.requestShed
  split
  · split
    · exact .inl ⟨{}, rfl⟩
    · rename_i other
      exact .inr ⟨{ s.link with shedSlot := .queued, shedCall := call },
        { shed := by simpa using other }, rfl⟩
  · exact .inl ⟨{}, rfl⟩

/-- R31, R32: a slot emptied off the wire leaves none CURRENT; on the wire its frame is given up. -/
theorem Link.dropShed_cases {l : Link} (h : l.SlotsLaw) :
    (l.SameCurrent l.dropShed ∧ l.dropShed.backoff = l.backoff) ∨
      (¬ l.dropShed.busy = true ∧ l.dropShed.attempts = 0 ∧ l.dropShed.onWire = none ∧
        l.dropShed.backoff = none) := by
  unfold Link.dropShed
  dsimp only
  split
  · exact .inl ⟨{}, rfl⟩
  · rename_i queued
    exact .inl ⟨{ shed := by simp [queued] }, rfl⟩
  · rename_i current
    split
    · exact .inl ⟨{}, rfl⟩
    · rename_i off
      obtain ⟨leave, state⟩ := h.apart.2.1 current
      exact .inr ⟨Link.not_busy leave nofun state, rfl, by simpa using off, rfl⟩

theorem Link.dropState_cases {l : Link} (h : l.SlotsLaw) :
    (l.SameCurrent l.dropState ∧ l.dropState.backoff = l.backoff) ∨
      (¬ l.dropState.busy = true ∧ l.dropState.attempts = 0 ∧ l.dropState.onWire = none ∧
        l.dropState.backoff = none) := by
  unfold Link.dropState
  dsimp only
  split
  · exact .inl ⟨{}, rfl⟩
  · rename_i queued
    exact .inl ⟨{ state := by simp [queued] }, rfl⟩
  · rename_i current
    split
    · exact .inl ⟨{}, rfl⟩
    · rename_i off
      obtain ⟨leave, shed⟩ := h.apart.2.2 current
      exact .inr ⟨Link.not_busy leave shed nofun, rfl, by simpa using off, rfl⟩

theorem Link.dropShed_slotsLaw {l : Link} (h : l.SlotsLaw) : l.dropShed.SlotsLaw := by
  rcases Link.dropShed_cases h with ⟨same, _⟩ | ⟨free, attempts, wire, _⟩
  · exact h.same same
  · exact .free free attempts wire

theorem Link.dropState_slotsLaw {l : Link} (h : l.SlotsLaw) : l.dropState.SlotsLaw := by
  rcases Link.dropState_cases h with ⟨same, _⟩ | ⟨free, attempts, wire, _⟩
  · exact h.same same
  · exact .free free attempts wire

theorem Link.dropShed_queueLaw {l : Link} (h : l.queueLaw = true) : l.dropShed.queueLaw = true := by
  rcases Link.dropShed_cases ((Link.queueLaw_iff _).1 h).1 with ⟨same, backoff⟩ |
    ⟨free, attempts, wire, backoff⟩
  · exact Link.queueLaw_same h same (.inl backoff)
  · exact (Link.queueLaw_iff _).2 ⟨.free free attempts wire, fun _ => backoff⟩

/-- R22: the LEAVE frame asked for. A LEAVE slot that is CURRENT is asked for afresh. -/
theorem Link.leave_queueLaw {l : Link} (n : Nat) (h : l.queueLaw = true) :
    (l.leave.select.count n).queueLaw = true := by
  have dropped : l.dropShed.dropState.SlotsLaw :=
    Link.dropState_slotsLaw (Link.dropShed_slotsLaw ((Link.queueLaw_iff _).1 h).1)
  refine Link.count_queueLaw n (Link.select_slotsLaw ?_)
  unfold Link.leave
  generalize l.dropShed.dropState = d at *
  by_cases leave : d.leaveSlot = .current
  · obtain ⟨shed, state⟩ := dropped.apart.1 leave
    exact .inr ⟨Link.not_busy nofun shed state, rfl⟩
  · exact .inl (dropped.same { leave := by simp [leave] })

/-! ## Ends of attempts -/

/-- R37: with its frame ended no slot is CURRENT. -/
theorem Link.endCurrent_free {l : Link} {w : WireFrame} (law : l.queueLaw = true)
    (wire : l.onWire = some w) (rolled : Bool) : ¬ (l.endCurrent rolled).busy = true := by
  rcases Link.queueLaw_current law wire with ⟨leave, shed, state⟩ | ⟨leave, shed, state⟩ |
    ⟨leave, shed, state⟩
  · rw [Link.endCurrent_leave leave]
    exact Link.not_busy nofun shed state
  · rw [Link.endCurrent_shed leave shed, Link.endShed]
    split <;> exact Link.not_busy leave nofun state
  · rw [Link.endCurrent_state leave shed state, Link.endState]
    dsimp only
    split <;> exact Link.not_busy leave shed nofun

/-- The slots as an ended frame leaves them, off the wire. -/
theorem Link.SameSlots.slotsLaw {l m : Link} {w : WireFrame} {rolled : Bool}
    (law : l.queueLaw = true) (wire : l.onWire = some w) (same : (l.endCurrent rolled).SameSlots m)
    (off : m.onWire = none) : m.SlotsLaw := by
  refine .free ?_ (same.attempts.trans (l.endCurrent_attempts rolled)) off
  rw [Link.busy, same.leave, same.shed, same.state]
  exact Link.endCurrent_free law wire rolled

/-- The law but for the backoff count goes through the entries that a drop brings. -/
theorem State.slotsLaw_kept : State.QueueKept (fun s => s.link.SlotsLaw) where
  core h e := by rw [e.link]; exact h
  request _ roll h := State.requestState_slotsLaw roll h
  shed s call h := by
    rcases s.requestShed_cases call with ⟨same, _⟩ | ⟨l, same, served⟩
    · exact h.same same
    · rw [served]
      exact ((Link.queueLaw_iff _).1 (Link.serve_queueLaw _ (h.same same))).1
  drop _ h := Link.dropShed_slotsLaw h

/-- R36, R37: the retry, the frame given up and the drop. -/
theorem State.failAttempt_queueLaw {s : State} {w : WireFrame} (wire : s.link.onWire = some w)
    (h : s.link.queueLaw = true) : (s.failAttempt w).link.queueLaw = true := by
  have ended {m : Link} (same : (s.link.endCurrent w.roll).SameSlots m) (off : m.onWire = none) :
      m.SlotsLaw := same.slotsLaw h wire off
  unfold State.failAttempt
  dsimp only
  rw [Link.endCurrent_release]
  split
  · exact Link.serve_queueLaw _ (ended (.released _) rfl)
  · split
    · rename_i retry
      have law : s.link.SlotsLaw := ((Link.queueLaw_iff _).1 h).1
      have below : s.link.attempts < 8 := retry
      refine Link.serve_queueLaw _ ⟨law.one, fun _ => ?_, fun free => ?_⟩
      · show 1 ≤ s.link.attempts + 1 ∧ s.link.attempts + 1 ≤ 8
        omega
      · rw [(law.clear free).2] at wire
        cases wire
    · exact Link.serve_queueLaw _ (State.slotsLaw_kept.dropReported
        (ended (.dropped _) rfl))

/-! ## The two invariants -/

theorem State.queueLaw_kept : State.RoofKept (fun s => s.link.queueLaw = true) where
  core h e := by rw [e.link]; exact h
  request _ roll h := State.requestState_queueLaw roll h
  shed s call h := by
    rcases s.requestShed_cases call with ⟨same, backoff⟩ | ⟨l, same, served⟩
    · exact Link.queueLaw_same h same (.inl backoff)
    · rw [served]
      exact Link.serve_queueLaw _ (((Link.queueLaw_iff _).1 h).1.same same)
  drop _ h := Link.dropShed_queueLaw h
  quiet _ _ q h := Link.queueLaw_same h q.sameCurrent q.backoff
  serve _ h := Link.serve_queueLaw _ ((Link.queueLaw_iff _).1 h).1
  attempt s counting h := by
    obtain ⟨law, idle⟩ := (Link.queueLaw_iff _).1 h
    have busy : s.link.busy = true := by
      by_contra free
      rw [idle (Bool.eq_false_iff.2 free)] at counting
      cases counting
    have current : ¬ s.beginAttempt.link.busy = false := by
      rw [show s.beginAttempt.link.busy = true from busy]
      nofun
    exact (Link.queueLaw_iff _).2 ⟨⟨law.one, law.counted, fun free => absurd free current⟩,
      fun free => absurd free current⟩
  failed _ _ wire h := State.failAttempt_queueLaw wire h
  sent _ _ wire h := Link.serve_queueLaw _ ((Link.SameSlots.sent _ _).slotsLaw h wire rfl)
  leave _ h := Link.leave_queueLaw _ h
  entry s n e _ h := by rw [s.setEntry_link n e]; exact h
  ceiling s h := by rw [s.recomputeCeiling_eq]; exact h
  restarted _ _ := rfl
  join _ _ _ h := h
  record _ _ h := h
  reset := rfl

/-- R54, R61: the laws of the roof table. -/
def State.TableLaws (s : State) : Prop :=
  (∀ n : Nat, (s.entry n).ClaimHeard) ∧ s.table.ceiling ≤ s.cfg.ceiling

theorem State.claimHeard_iff (s : State) :
    s.table.claimLaw = true ↔ ∀ n : Nat, (s.entry n).ClaimHeard := by
  have heard (e : Entry) : (e.claim.isNone || e.state.heard) = true ↔ e.ClaimHeard := by
    unfold Entry.ClaimHeard
    cases e.claim <;> simp
  simp only [RoofTable.claimLaw, List.all_eq_true, heard, s.mem_entries]
  constructor
  · intro h n
    by_cases hn : 1 ≤ n ∧ n ≤ 48
    · exact h _ ⟨n, hn, rfl⟩
    · rw [s.entry_outside hn]
      nofun
  · rintro h e ⟨n, _, rfl⟩
    exact h n

theorem State.tableLaws_iff (s : State) :
    s.TableLaws ↔ s.table.claimLaw = true ∧ s.ceilingLaw = true := by
  rw [s.claimHeard_iff, State.ceilingLaw, decide_eq_true_eq]
  rfl

theorem State.TableLaws.congr {s t : State} (h : s.TableLaws) (table : t.table = s.table)
    (config : t.config = s.config) : t.TableLaws := by
  refine ⟨fun n => ?_, ?_⟩
  · rw [State.entry_congr (s := s) (by rw [table])]
    exact h.1 n
  · rw [table, State.cfg_congr config]
    exact h.2

theorem State.stationFrame.tableLaws {s t : State} (f : s.stationFrame t) (h : s.TableLaws) :
    t.TableLaws := by
  rw [f]
  exact h.congr rfl rfl

/-- R65: the table as JOINING sets it holds no claim part. -/
theorem RoofTable.joining_claimLaw (cfg : ConfigRecord) : (RoofTable.joining cfg).claimLaw = true := by
  rw [RoofTable.claimLaw, List.all_eq_true]
  intro e he
  rw [RoofTable.joining, Vector.mem_toList_iff, Vector.mem_ofFn] at he
  obtain ⟨i, rfl⟩ := he
  rfl

/-- R64: no entry of the table at power-up holds a claim part. -/
theorem RoofTable.start_claimLaw : RoofTable.start.claimLaw = true := by
  simp [RoofTable.start, RoofTable.claimLaw, Entry.blank]

theorem State.tableLaws_kept : State.RoofKept State.TableLaws where
  core h e := h.congr e.table e.config
  request s roll h := (s.requestState_frame roll).station.tableLaws h
  shed s call h := (s.requestShed_frame call).station.tableLaws h
  drop _ h := h
  quiet _ _ _ h := h
  serve _ h := h
  attempt _ _ h := h
  failed s w _ h := (s.failAttempt_frame w).tableLaws h
  sent _ _ _ h := h
  leave _ h := h
  entry s n e he h := by
    refine ⟨fun m => ?_, ?_⟩
    · by_cases hn : 1 ≤ n ∧ n ≤ 48
      · rw [s.entry_setEntry n m e hn]
        split
        · exact he (h.1 n)
        · exact h.1 m
      · rw [State.setEntry, dif_neg hn]
        exact h.1 m
    · rw [s.setEntry_ceiling, State.cfg_congr (s.setEntry_config n e)]
      exact h.2
  ceiling s h := by
    refine ⟨fun n => ?_, s.recomputeCeiling_least.1⟩
    rw [State.entry_congr (s := s) (by rw [s.recomputeCeiling_table])]
    exact h.1 n
  restarted s _ := ⟨s.restarted.claimHeard_iff.1 RoofTable.start_claimLaw, Nat.zero_le _⟩
  join s cfg hc _ := by
    have own : s.cfg.ceiling = cfg.ceiling := by rw [State.cfg, hc, Option.getD_some]
    refine ⟨(State.claimHeard_iff _).1 (RoofTable.joining_claimLaw cfg), ?_⟩
    have same := State.cfg_congr (s := s) (t := { s with table := RoofTable.joining cfg }) rfl
    rw [same, own]
    exact le_rfl
  record _ _ h := ⟨h.1, le_rfl⟩
  reset := ⟨State.reset.claimHeard_iff.1 RoofTable.start_claimLaw, le_rfl⟩

/-- Settles O56: both laws are kept by what writes the queue, the table and the record. -/
theorem queueAndTableLawsAlways : Obligations.QueueAndTableLawsAlways := by
  refine ⟨fun s t => State.queueLaw_kept.step, fun s t claim ceiling hst => ?_⟩
  exact (State.tableLaws_iff t).1
    (State.tableLaws_kept.step ((State.tableLaws_iff s).2 ⟨claim, ceiling⟩) hst)

end Sys2Proof.Machine

/-! # The link's own events (R24, R25, R31, R33 to R36, R39, R41, R42, R45) -/

namespace Sys2Proof.Machine

/-! ## The queue served -/

theorem Link.select_of_busy {l : Link} (h : l.busy = true) : l.select = l := by
  rw [Link.select, if_pos h]

/-- R30: a queue with every slot EMPTY. -/
theorem Link.not_busy_of_empty {l : Link} (leave : l.leaveSlot = .empty) (shed : l.shedSlot = .empty)
    (state : l.stateSlot = .empty) : ¬ l.busy = true := by
  apply Link.not_busy <;> simp [leave, shed, state]

theorem Link.select_of_empty {l : Link} (leave : l.leaveSlot = .empty) (shed : l.shedSlot = .empty)
    (state : l.stateSlot = .empty) : l.select = l := by
  rw [Link.select, if_neg (Link.not_busy_of_empty leave shed state)]
  simp [leave, shed, state]

/-- R35: the count of the current frame starts or goes on while its conditions hold. -/
theorem Link.count_of_busy {l : Link} (n : Nat) (h : l.busy = true) :
    l.count n = { l with
      backoff :=
        if l.idle = true ∧ l.spacing = none ∧ l.onWire = none ∧ l.cutOff = false then
          if l.backoff.isSome then l.backoff else some (backoffSlots n l.attempts)
        else none } := by
  have conditions : (l.busy && l.idle && l.spacing.isNone && l.onWire.isNone && !l.cutOff) = true ↔
      l.idle = true ∧ l.spacing = none ∧ l.onWire = none ∧ l.cutOff = false := by
    simp [h, and_assoc]
  unfold Link.count
  simp only [conditions]
  split
  · split
    · rename_i running
      rw [if_pos (by rw [running]; rfl)]
    · rename_i stopped
      rw [if_neg (by rw [stopped]; nofun)]
  · rfl

theorem Link.count_of_free {l : Link} (n : Nat) (h : ¬ l.busy = true) :
    l.count n = { l with backoff := none } := by
  simp [Link.count, h]

/-- R30, R35: with a slot CURRENT a served queue starts, keeps or ends its count. -/
theorem State.serveLink_of_busy {s : State} (busy : s.link.busy = true) :
    s.serveLink = { s with link := s.link.count s.number } := by
  rw [State.serveLink, Link.select_of_busy busy]

/-- R35: with every slot EMPTY a served queue counts nothing. -/
theorem State.serveLink_of_empty {s : State} (leave : s.link.leaveSlot = .empty)
    (shed : s.link.shedSlot = .empty) (state : s.link.stateSlot = .empty) :
    s.serveLink = { s with link.backoff := none } := by
  rw [State.serveLink, Link.select_of_empty leave shed state,
    Link.count_of_free _ (Link.not_busy_of_empty leave shed state)]

/-! ## LINK_IDLE and SPACING_EXPIRY -/

theorem Link.listening_of {l : Link} (rxOn : l.rxOn = true) (wire : l.onWire = none)
    (cut : l.cutOff = false) : l.listening = true := by
  simp [Link.listening, rxOn, wire, cut]

/-- R25: an idle link at the receiver. -/
def Link.idled (l : Link) : Link :=
  { l with idle := true, afterFrame := false, rx := if l.rx = .discard then .hunt else l.rx }

theorem State.linkIdle_runs {s : State} (hp : s.powered = true) (h : s.link.listening = true) :
    exec .linkIdle s = .next (State.serveLink { s with link := s.link.idled }) :=
  State.innerEvent_runs (fun s => State.serveLink { s with link := s.link.idled }) hp h

theorem State.spacingExpiry_runs {s : State} (hp : s.powered = true)
    (h : s.link.spacing.isSome = true) :
    exec .spacingExpiry s = .next (State.serveLink { s with link.spacing := none }) :=
  State.innerEvent_runs (fun s => State.serveLink { s with link.spacing := none }) hp h

/-- Settles O22: the queue of the idle link served, with a slot CURRENT and with none. -/
theorem linkIdleStartsTheBackoff : Obligations.LinkIdleStartsTheBackoff := by
  refine ⟨fun s hp rxOn wire cut busy => ?_, fun s hp rxOn wire cut leave shed state => ?_⟩
  · rw [State.linkIdle_runs hp (Link.listening_of rxOn wire cut),
      State.serveLink_of_busy (s := { s with link := s.link.idled }) busy,
      Link.count_of_busy _ (show s.link.idled.busy = true from busy)]
    cases spacing : s.link.spacing <;>
      simp [Link.idled, wire, cut, spacing, backoffSlots, State.number, State.cfg]
  · rw [State.linkIdle_runs hp (Link.listening_of rxOn wire cut)]
    exact congrArg _ (State.serveLink_of_empty (s := { s with link := s.link.idled }) leave shed state)

/-! ## The other timers -/

/-- R34: LNK_DE released at the end of a frame that a restart cut off. -/
theorem State.cutOffFrameRelease_runs {s : State} (hp : s.powered = true)
    (h : s.link.cutOff = true) :
    exec .cutOffFrameRelease s =
      .next (State.serveLink { s with link := s.link.release }).drivePins := by
  simp [exec, execCutOffFrameRelease, State.quietEvent, hp, h]

/-- R35: the spacing timer, loaded by the release, holds the count back. -/
theorem Link.release_count (l : Link) (n : Nat) : (l.release.select.count n).backoff = none := by
  have running := Link.count_running n l.release.select
  have spaced : l.release.select.spacing = some spacingTime := by rw [Link.select_frame]; rfl
  rw [spaced] at running
  simpa using running

/-- Settles O32: the queue served after each timer. -/
theorem linkTimersActOnTheQueue : Obligations.LinkTimersActOnTheQueue := by
  refine ⟨fun s hp spacing busy waits => ?_, fun s hp report => ?_, fun s hp counting => ?_,
    fun s hp cut => ?_, fun s hp spacing leave shed state => ?_⟩
  · rw [State.spacingExpiry_runs hp spacing,
      State.serveLink_of_busy (s := { s with link.spacing := none }) busy,
      Link.count_of_busy _ (show ({ s.link with spacing := none } : Link).busy = true from busy)]
    simp [waits, backoffSlots, State.number, State.cfg]
  · have asked := State.requestState_link { s with link.report := some reportPeriod } false
    refine ⟨_, State.innerEvent_runs
      (fun s => State.requestState { s with link.report := some reportPeriod }) hp report,
      by rw [asked]; rfl, fun reports => State.requestState_waiting false reports,
      by rw [asked], by rw [asked], by rw [asked], ?_⟩
    rw [State.requestState_eq]
  · exact State.innerEvent_runs (fun s => { s with link := s.link.heard }) hp counting
  · have frame := State.serveLink_frame { s with link := s.link.release }
    refine ⟨_, State.cutOffFrameRelease_runs hp cut, by rw [State.drivePins_link, frame]; rfl,
      by rw [State.drivePins_link, frame]; rfl, by rw [State.drivePins_link, frame]; rfl,
      s.link.release_count s.number, ?_, rfl⟩
    show ((State.serveLink { s with link := s.link.release }).link.onWire.isSome ||
      (State.serveLink { s with link := s.link.release }).link.cutOff) = false
    rw [frame]
    rfl
  · rw [State.spacingExpiry_runs hp spacing]
    exact congrArg _
      (State.serveLink_of_empty (s := { s with link.spacing := none }) leave shed state)

/-! ## The receiver -/

theorem parseFrame_none {b : List Byte} (h : parseFrame b = none) : validFrame b = false := by
  unfold parseFrame at h
  split at h
  · cases h
  · simp_all

/-- Settles O23: what each event writes at the receiver. -/
theorem receiverCountsRejectedFrames : Obligations.ReceiverCountsRejectedFrames := by
  refine ⟨fun s cause hp hl ha => ?_, fun s frame hp hr complete invalid => ?_,
    fun s hp hl discard after => ?_, fun s hp hl hunt => ?_, fun s frame f hp hr hf own same => ?_⟩
  · exact State.innerEvent_runs (fun s => { s with link := s.link.abort }) hp (by simp [hl, ha])
  · exact State.innerEvent_runs (fun s => { s with link := s.link.complete.countRejected }) hp
      (by simp [hr, complete, parseFrame_none invalid])
  · exact State.innerEvent_runs
      (fun s => { s with link := { s.link.heard.countRejected with afterFrame := false } }) hp
      (by simp [hl, discard, after])
  · exact State.innerEvent_runs
      (fun s => { s with link := { s.link.heard with rx := .collect } }) hp (by simp [hl, hunt])
  · simp only [exec, execOwnEcho, hf]
    exact State.innerEvent_runs (fun s => { s with link := s.link.complete }) hp
      (by simp [hr, own, same])

/-! ## ATTEMPT_BEGIN -/

theorem State.attemptBegin_runs {s : State} (hp : s.powered = true)
    (h : s.link.backoff.isSome = true) : exec .attemptBegin s = .next s.beginAttempt.drivePins := by
  simp [exec, execAttemptBegin, State.quietEvent, hp, h]

/-- R49: the own fan load as a STATE carries it. -/
theorem State.reported_fanLoad (s : State) : s.reported s.fanLoad =
    if s.station.state = .shutdown ∨ s.mode.fan = false then 0 else s.cfg.fanLoad := by
  unfold State.reported State.fanLoad
  cases s.mode.fan <;> simp

/-- Settles O29: the attempt's own writes, and the live report spelled out. -/
theorem attemptTakesFreshContent : Obligations.AttemptTakesFreshContent := by
  refine ⟨fun s hp counting => ⟨_, State.attemptBegin_runs hp counting, rfl, ?_, rfl⟩,
    fun s leave shed => ?_⟩
  · rfl
  · rw [State.currentFrame, if_neg leave, if_neg shed]
    simp only [State.stateContent, State.selfReport, State.reported_fanLoad]
    rfl

/-! ## ROLLCALL and LINK_TEST -/

theorem Link.serve_marks (l : Link) (n : Nat) :
    (l.select.count n).again = l.again ∧ (l.select.count n).roll = l.roll := by
  rw [Link.count_eq, Link.select]
  repeat' split
  all_goals exact ⟨rfl, rfl⟩

theorem State.requestState_marks {s : State} (roll : Bool) (h : s.station.state.reports = true) :
    (s.requestState roll).link.again = (s.link.requestState roll).again ∧
      (s.requestState roll).link.roll = (s.link.requestState roll).roll := by
  rw [State.requestState, if_pos h]
  exact Link.serve_marks _ _

/-- R31: a request with ROLL, by the state of the STATE slot. -/
theorem Link.requestState_offWire {l : Link} (h : l.stateSlot ≠ .current ∨ l.onWire = none) :
    (l.requestState true).roll = true ∧ (l.requestState true).again = l.again := by
  unfold Link.requestState
  split
  · exact ⟨rfl, rfl⟩
  · exact ⟨Bool.or_true _, rfl⟩
  · rename_i current
    rw [h.resolve_left (absurd current)]
    exact ⟨Bool.or_true _, rfl⟩

theorem Link.requestState_onWire {l : Link} {w : WireFrame} (current : l.stateSlot = .current)
    (wire : l.onWire = some w) : l.requestState true =
      if w.roll then l else { l with again := true, roll := true } := by
  rw [Link.requestState, current, wire]
  simp

theorem State.rollcall_runs {s : State} (hp : s.powered = true) (hb : s.svc.buffer = .empty)
    (hs : s.station.state = .sharing) : exec .rollcall s =
      .next ((State.requestState { s with svc.rx := .hunt } true).answer 0x32 .ok) := by
  simp [exec, execRollcall, State.request_runs, hp, hb, hs]

/-- Settles O17: the request with ROLL by the STATE slot, and the refusal. -/
theorem rollcallRequestsRoll : Obligations.RollcallRequestsRoll := by
  refine ⟨fun s hp hb hs => ?_, fun s hp hb hs => ?_⟩
  · have reports : s.station.state.reports = true := by rw [hs]; rfl
    obtain ⟨again, roll⟩ := State.requestState_marks (s := { s with svc.rx := .hunt }) true reports
    refine ⟨_, State.rollcall_runs hp hb hs, State.requestState_waiting true reports,
      fun off => ?_, fun w wire current rolls => ?_, fun w wire current silent => ?_, ?_,
      State.requestState_link _ true, ?_⟩
    · obtain ⟨rolled, kept⟩ := Link.requestState_offWire off
      exact ⟨roll.trans rolled, again.trans kept⟩
    · have merged := Link.requestState_onWire current wire
      rw [rolls, if_pos rfl] at merged
      exact ⟨roll.trans (congrArg Link.roll merged), again.trans (congrArg Link.again merged)⟩
    · have another := Link.requestState_onWire current wire
      rw [silent, if_neg nofun] at another
      exact ⟨roll.trans (congrArg Link.roll another), again.trans (congrArg Link.again another)⟩
    · rw [State.requestState_eq]
      rfl
    · rw [State.requestState_eq]
      rfl
  · rw [exec, execRollcall, State.request_runs _ _ hp hb]
    exact congrArg _ (if_neg hs)

/-- Settles O18: the three answers of LINK_TEST, one per branch. -/
theorem linkTestSetsMaskAndCount : Obligations.LinkTestSetsMaskAndCount := by
  refine ⟨fun s mask count hp hb config left set low high => ?_,
    fun s mask count hp hb config left bad => ?_, fun s mask count hp hb off => ?_⟩ <;>
    rw [exec, execLinkTest, State.request_runs _ _ hp hb]
  · rw [if_neg (by simp [config, left]), 
      if_neg (by rintro (zero | few | many); exacts [set zero, by omega, by omega])]
    rfl
  · rw [if_neg (by simp [config, left]), if_pos (bad.imp_right (by omega))]
    rfl
  · rw [if_pos off]
    rfl

end Sys2Proof.Machine

/-! # Frames read back as they were sent (R26, R27, R29, R33, R41, R198, R199, R201)

Fields are read at their offsets in what a list of bytes begins with, and behind what stands before it;
a frame of either line passes its CRC by how it is framed alone. -/

namespace Sys2Proof.Machine

/-! ## Fields at their offsets -/

theorem byteAt_append_left {a : List Byte} {i : Nat} (b : List Byte) (h : i < a.length) :
    byteAt (a ++ b) i = byteAt a i := by
  rw [byteAt, byteAt, List.getD_append _ _ _ _ h]

theorem byteAt_append_right (a b : List Byte) (i : Nat) :
    byteAt (a ++ b) (a.length + i) = byteAt b i := by
  rw [byteAt, byteAt, List.getD_append_right _ _ _ _ (Nat.le_add_right ..),
    Nat.add_sub_cancel_left]

theorem wordAt_append_left {a : List Byte} {i : Nat} (b : List Byte) (h : i + 1 < a.length) :
    wordAt (a ++ b) i = wordAt a i := by
  rw [wordAt, wordAt, byteAt_append_left b (by omega), byteAt_append_left b h]

theorem wordAt_append_right (a b : List Byte) (i : Nat) :
    wordAt (a ++ b) (a.length + i) = wordAt b i := by
  rw [wordAt, wordAt, byteAt_append_right, Nat.add_assoc, byteAt_append_right]

/-- A number below 256 sent in one byte reads back. -/
theorem toNat_byte {n : Nat} (h : n < 256) : (BitVec.ofNat 8 n).toNat = n := by
  rw [BitVec.toNat_ofNat, Nat.mod_eq_of_lt h]

theorem wordAt_be16_self {n : Nat} (h : n < 65536) : wordAt (be16 n) 0 = n := by
  have word := wordAt_be16 n h []
  rwa [List.append_nil] at word

theorem longAt_be32 (v : BitVec 32) : longAt (be32 v) 0 = v := by
  have small := v.isLt
  have high : wordAt (be32 v) 0 = v.toNat / 65536 := wordAt_be16 _ (by omega) _
  have low : wordAt (be32 v) 2 = v.toNat % 65536 := by
    have bytes : wordAt (be32 v) 2 = wordAt (be16 v.toNat) 0 := wordAt_append_right _ _ 0
    rw [bytes]
    simp [wordAt, byteAt, be16]
    omega
  rw [longAt, high, low]
  apply BitVec.eq_of_toNat_eq
  rw [BitVec.toNat_ofNat]
  omega

/-- R26: a temperature reads back, one of -3276.8 alone being the code of none. -/
theorem tempAt_beTemp (t : Option Int) (h : ∀ v ∈ t, -32768 < v ∧ v < 32768) :
    tempAt (beTemp t) 0 = t := by
  cases t with
  | none => rw [tempAt, beTemp, wordAt_be16_self (by omega), if_pos rfl]
  | some v =>
    obtain ⟨low, high⟩ := h v rfl
    have word : wordAt (beTemp (some v)) 0 = (BitVec.ofInt 16 v).toNat :=
      wordAt_be16_self (BitVec.ofInt 16 v).isLt
    have read : (BitVec.ofInt 16 v).toInt = v := by
      rw [BitVec.toInt_ofInt, Int.bmod_eq_of_le] <;> omega
    have coded : (BitVec.ofInt 16 v).toNat ≠ 0x8000 := by
      intro code
      have none : BitVec.ofInt 16 v = 0x8000#16 := BitVec.eq_of_toNat_eq code
      rw [none] at read
      exact absurd read (by simp; omega)
    rw [tempAt, signedAt, word, if_neg coded, BitVec.ofNat_toNat, BitVec.setWidth_eq, read]

/-! ## The frame of both lines -/

/-- R29: a body whose first byte is its length less one passes behind its own CRC. -/
theorem crcGood_framed (start : Byte) {body : List Byte} (h : body.length = byteAt body 0 + 1) :
    crcGood (start :: (body ++ be16 (crc16 body).toNat)) = true := by
  have length : byteAt (start :: (body ++ be16 (crc16 body).toNat)) 1 = byteAt body 0 :=
    byteAt_append_left (i := 0) _ (by omega)
  have covered : ((start :: (body ++ be16 (crc16 body).toNat)).drop 1).take (byteAt body 0 + 1) =
      body := by
    rw [List.drop_one, List.tail_cons, ← h, List.take_left]
  have crc : wordAt (start :: (body ++ be16 (crc16 body).toNat)) (2 + byteAt body 0) =
      (crc16 body).toNat := by
    have behind : 2 + byteAt body 0 = (start :: body).length + 0 := by
      rw [List.length_cons]
      omega
    rw [behind, ← List.cons_append, wordAt_append_right]
    exact wordAt_be16_self (crc16 body).isLt
  rw [crcGood]
  rw [length, covered, crc, beq_self_eq_true]

/-! ## Service requests -/

/-- R198, R199: what a request frame covers by its CRC. -/
def requestBody (code : Nat) (payload : List Byte) : List Byte :=
  be8 (1 + payload.length) ++ be8 code ++ payload

theorem requestFrame_eq (code : Nat) (payload : List Byte) : requestFrame code payload =
    0x5A :: (requestBody code payload ++ be16 (crc16 (requestBody code payload)).toNat) := rfl

/-- R199, R201: a request frame is read by its code and its length. -/
theorem readRequest_requestFrame {code : Nat} {payload : List Byte} (small : code < 256)
    (fits : payload.length ≤ 254) : readRequest (requestFrame code payload) =
      if requestLength code = some (1 + payload.length) then requestOf code payload
      else some (.unknownRequest (BitVec.ofNat 8 code) payload) := by
  have length : byteAt (requestFrame code payload) 1 = 1 + payload.length := toNat_byte (by omega)
  have coded : byteAt (requestFrame code payload) 2 = code := toNat_byte small
  have complete : completeServiceFrame (requestFrame code payload) = true := by
    have start : byteAt (requestFrame code payload) 0 = 0x5A := rfl
    have total : (requestFrame code payload).length = 1 + payload.length + 4 := by
      simp [requestFrame_eq, requestBody]
      omega
    rw [completeServiceFrame]
    rw [start, length, total]
    simp
  have good : crcGood (requestFrame code payload) = true := by
    rw [requestFrame_eq]
    refine crcGood_framed _ ?_
    have first : byteAt (requestBody code payload) 0 = 1 + payload.length := toNat_byte (by omega)
    rw [first]
    simp [requestBody]
    omega
  have carried : ((requestFrame code payload).drop 3).take (1 + payload.length - 1) = payload := by
    have behind : (requestFrame code payload).drop 3 =
        payload ++ be16 (crc16 (requestBody code payload)).toNat := rfl
    rw [behind, Nat.add_sub_cancel_left, List.take_left]
  rw [readRequest, if_pos complete, if_pos good]
  dsimp only
  rw [length, coded, carried]
  rfl

/-- R199: a category set in its three bytes. -/
theorem be24_reads (set : BitVec 24) :
    BitVec.ofNat 24 (byteAt (be24 set) 0 * 65536 + wordAt (be24 set) 1) = set := by
  have small := set.isLt
  apply BitVec.eq_of_toNat_eq
  simp [be24, wordAt, byteAt, be16]
  omega

/-! ## Roof link frames -/

/-- R26: what a roof link frame covers by its CRC. -/
def linkBody (kind station : Nat) (identity : BitVec 32) (payload : List Byte) : List Byte :=
  be8 (6 + payload.length) ++ be8 kind ++ be8 station ++ be32 identity ++ payload

theorem linkFrame_eq (kind station : Nat) (identity : BitVec 32) (payload : List Byte) :
    linkFrame kind station identity payload 0 =
      0xA7 :: (linkBody kind station identity payload ++
        be16 (crc16 (linkBody kind station identity payload)).toNat) := by
  have unmasked (crc : BitVec 16) : crc ^^^ 0 = crc := BitVec.xor_zero
  rw [linkFrame, unmasked]
  rfl

section

variable {kind station : Nat} {identity : BitVec 32} {payload : List Byte}

/-- R26: the payload of a frame, from offset 8. -/
theorem linkFrame_split : linkFrame kind station identity payload 0 =
    (be8 0xA7 ++ be8 (6 + payload.length) ++ be8 kind ++ be8 station ++ be32 identity) ++
      (payload ++ be16 (crc16 (linkBody kind station identity payload)).toNat) := by
  rw [linkFrame_eq]
  rfl

theorem linkFrame_byteAt {i : Nat} (h : i < payload.length) :
    byteAt (linkFrame kind station identity payload 0) (8 + i) = byteAt payload i := by
  rw [linkFrame_split]
  exact (byteAt_append_right _ _ i).trans (byteAt_append_left _ h)

theorem linkFrame_wordAt {i : Nat} (h : i + 1 < payload.length) :
    wordAt (linkFrame kind station identity payload 0) (8 + i) = wordAt payload i := by
  rw [linkFrame_split]
  exact (wordAt_append_right _ _ i).trans (wordAt_append_left _ h)

/-- R26: the header of a frame. -/
theorem linkFrame_length (fits : 6 + payload.length < 256) :
    byteAt (linkFrame kind station identity payload 0) 1 = 6 + payload.length := toNat_byte fits

theorem linkFrame_kind (h : kind < 256) :
    byteAt (linkFrame kind station identity payload 0) 2 = kind := toNat_byte h

theorem linkFrame_station (h : station < 256) :
    byteAt (linkFrame kind station identity payload 0) 3 = station := toNat_byte h

theorem linkFrame_identity : longAt (linkFrame kind station identity payload 0) 4 = identity :=
  longAt_be32 identity

/-- R28: the link revision in the identity word. -/
theorem linkFrame_revision (h : identity.extractLsb' 28 4 = 1) :
    byteAt (linkFrame kind station identity payload 0) 4 / 16 = 1 := by
  have top : byteAt (linkFrame kind station identity payload 0) 4 =
      identity.toNat / 65536 / 256 := toNat_byte (by have := identity.isLt; omega)
  have revision : identity.toNat / 268435456 % 16 = 1 := by
    have bits := congrArg BitVec.toNat h
    simpa [BitVec.extractLsb'_toNat, Nat.shiftRight_eq_div_pow] using bits
  have small := identity.isLt
  rw [top]
  omega

theorem linkFrame_complete (known : payload.length = 0 ∨ payload.length = 3 ∨
    payload.length = 16 ∨ payload.length = 22) :
    completeFrame (linkFrame kind station identity payload 0) = true := by
  have start : byteAt (linkFrame kind station identity payload 0) 0 = 0xA7 := rfl
  have total : (linkFrame kind station identity payload 0).length = 6 + payload.length + 4 := by
    rw [linkFrame_eq]
    simp [linkBody]
    omega
  rw [completeFrame, start, linkFrame_length (by omega), total]
  rcases known with h | h | h | h <;> rw [h] <;> rfl

theorem linkFrame_crcGood (fits : 6 + payload.length < 256) :
    crcGood (linkFrame kind station identity payload 0) = true := by
  rw [linkFrame_eq]
  refine crcGood_framed _ ?_
  have first : byteAt (linkBody kind station identity payload) 0 = 6 + payload.length :=
    toNat_byte fits
  rw [first]
  simp [linkBody]
  omega

end

/-! ## The payload of a STATE -/

/-- R26, R27: the fields of a claim part fit their widths. -/
structure ClaimPart.Fits (c : ClaimPart) : Prop where
  serial : c.serial < 256
  slotCode : c.slotCode < 256
  increment : c.increment < 65536
  level : c.level < 256
  intended : c.intended < 256

/-- R26, R27: the fields of a STATE fit their widths, and its temperature is not the code of none. -/
structure StateFrame.Fits (r : StateFrame) : Prop where
  stationState : r.report.stationState < 256
  unitMode : r.report.unitMode < 256
  level : r.report.level < 256
  staged : r.report.staged < 65536
  fan : r.report.fan < 65536
  cap : r.report.cap < 65536
  ceiling : r.report.ceiling < 65536
  offer : r.report.offer < 65536
  spaceTemp : ∀ v ∈ r.report.spaceTemp, -32768 < v ∧ v < 32768
  claim : ∀ c ∈ r.claim, c.Fits

/-- R26: a STATE's payload up to its claim part. -/
def stateHead (r : StateFrame) : List Byte :=
  be8 (r.roll.toNat + 2 * r.claim.isSome.toNat + 4 * r.report.ownSensor.toNat) ++
    be8 r.report.stationState ++ be8 r.report.unitMode ++ be8 r.report.level ++
    be16 r.report.staged ++ be16 r.report.fan ++ be16 r.report.cap ++ be16 r.report.ceiling ++
    be16 r.report.offer ++ beTemp r.report.spaceTemp

theorem stateHead_length (r : StateFrame) : (stateHead r).length = 16 := by simp [stateHead]

theorem stateBytes_eq (r : StateFrame) :
    stateBytes r = stateHead r ++ (r.claim.map claimBytes).getD [] := by
  unfold stateBytes stateHead
  cases r.claim <;> rfl

theorem stateBytes_length (r : StateFrame) :
    (stateBytes r).length = if r.claim.isSome then 22 else 16 := by
  rw [stateBytes_eq, List.length_append, stateHead_length]
  cases r.claim <;> rfl

/-- R26: the three flags of a STATE. -/
theorem flags_testBit (roll claim own : Bool) :
    (BitVec.ofNat 8 (roll.toNat + 2 * claim.toNat + 4 * own.toNat)).toNat.testBit 0 = roll ∧
      (BitVec.ofNat 8 (roll.toNat + 2 * claim.toNat + 4 * own.toNat)).toNat.testBit 1 = claim ∧
      (BitVec.ofNat 8 (roll.toNat + 2 * claim.toNat + 4 * own.toNat)).toNat.testBit 2 = own := by
  revert roll claim own
  decide

theorem tempAt_congr {a b : List Byte} {i j : Nat} (h : wordAt a i = wordAt b j) :
    tempAt a i = tempAt b j := by
  rw [tempAt, tempAt, signedAt, signedAt, h]

section

variable {station : Nat} {identity : BitVec 32} {r : StateFrame}

/-- R26: offsets 8 to 23 of a STATE. -/
theorem stateFrame_byteAt {i : Nat} (h : i < 16) :
    byteAt (linkFrame 0x31 station identity (stateBytes r) 0) (8 + i) = byteAt (stateHead r) i := by
  have inside : i < (stateHead r).length := by rw [stateHead_length]; exact h
  rw [linkFrame_byteAt (by rw [stateBytes_eq, List.length_append]; omega), stateBytes_eq,
    byteAt_append_left _ inside]

theorem stateFrame_wordAt {i : Nat} (h : i + 1 < 16) :
    wordAt (linkFrame 0x31 station identity (stateBytes r) 0) (8 + i) = wordAt (stateHead r) i := by
  rw [wordAt, wordAt, Nat.add_assoc, stateFrame_byteAt (by omega), stateFrame_byteAt h]

/-- R26: the flags at offset 8. -/
theorem stateFrame_flags :
    (byteAt (linkFrame 0x31 station identity (stateBytes r) 0) 8).testBit 0 = r.roll ∧
      (byteAt (linkFrame 0x31 station identity (stateBytes r) 0) 8).testBit 1 = r.claim.isSome ∧
      (byteAt (linkFrame 0x31 station identity (stateBytes r) 0) 8).testBit 2 =
        r.report.ownSensor := by
  rw [stateFrame_byteAt (i := 0) (by omega)]
  exact flags_testBit ..

/-- R26, R27: offsets 24 to 29 of a STATE with a claim part. -/
theorem stateFrame_readClaim {c : ClaimPart} (hc : r.claim = some c) (fits : c.Fits) :
    readClaim (linkFrame 0x31 station identity (stateBytes r) 0) = c := by
  have payload : stateBytes r = stateHead r ++ claimBytes c := by rw [stateBytes_eq, hc]; rfl
  have total : (stateBytes r).length = 22 := by rw [stateBytes_length, hc]; rfl
  have byte {i : Nat} (h : i < 6) :
      byteAt (linkFrame 0x31 station identity (stateBytes r) 0) (8 + (16 + i)) =
        byteAt (claimBytes c) i := by
    rw [linkFrame_byteAt (by omega), payload, ← stateHead_length r, byteAt_append_right]
  have word : wordAt (linkFrame 0x31 station identity (stateBytes r) 0) (8 + (16 + 2)) =
      wordAt (claimBytes c) 2 := by
    rw [linkFrame_wordAt (by omega), payload, ← stateHead_length r, wordAt_append_right]
  have serial := (byte (i := 0) (by omega)).trans (toNat_byte fits.serial)
  have slot := (byte (i := 1) (by omega)).trans (toNat_byte fits.slotCode)
  have increment := word.trans (wordAt_be16 _ fits.increment (be8 c.level ++ be8 c.intended))
  have level := (byte (i := 4) (by omega)).trans (toNat_byte fits.level)
  have intended := (byte (i := 5) (by omega)).trans (toNat_byte fits.intended)
  rw [readClaim, serial, slot, increment, level, intended]

/-- R26, R27: the payload of a STATE whose identity is that of the header. -/
theorem stateFrame_readState (fits : r.Fits) (id : r.report.identity = identity) :
    readState (linkFrame 0x31 station identity (stateBytes r) 0) = r := by
  obtain ⟨roll, _, own⟩ := stateFrame_flags (station := station) (identity := identity) (r := r)
  have byte {i : Nat} (h : i < 16) := stateFrame_byteAt (station := station) (identity := identity)
    (r := r) h
  have word {i : Nat} (h : i + 1 < 16) := stateFrame_wordAt (station := station)
    (identity := identity) (r := r) h
  have stationState := (byte (i := 1) (by omega)).trans (toNat_byte fits.stationState)
  have unitMode := (byte (i := 2) (by omega)).trans (toNat_byte fits.unitMode)
  have level := (byte (i := 3) (by omega)).trans (toNat_byte fits.level)
  have staged := (word (i := 4) (by omega)).trans (wordAt_be16_self fits.staged)
  have fan := (word (i := 6) (by omega)).trans (wordAt_be16_self fits.fan)
  have cap := (word (i := 8) (by omega)).trans (wordAt_be16_self fits.cap)
  have ceiling := (word (i := 10) (by omega)).trans (wordAt_be16_self fits.ceiling)
  have offer := (word (i := 12) (by omega)).trans (wordAt_be16_self fits.offer)
  have temp : tempAt (linkFrame 0x31 station identity (stateBytes r) 0) 22 = r.report.spaceTemp := by
    refine (tempAt_congr ((word (i := 14) (by omega)).trans ?_)).trans
      (tempAt_beTemp _ fits.spaceTemp)
    exact wordAt_append_right _ (beTemp r.report.spaceTemp) 0
  have claim : (if byteAt (linkFrame 0x31 station identity (stateBytes r) 0) 1 = 28 then
      some (readClaim (linkFrame 0x31 station identity (stateBytes r) 0)) else none) = r.claim := by
    have total := stateBytes_length r
    rw [linkFrame_length (by rw [total]; split <;> omega), total]
    cases hc : r.claim with
    | none => rfl
    | some c => rw [stateFrame_readClaim hc (fits.claim c hc)]; rfl
  rw [readState, roll, own, stationState, unitMode, level, staged, fan, cap, ceiling, offer, temp,
    claim, linkFrame_identity, ← id]

/-- R41: the CLAIM flag of a STATE agrees with its length. -/
theorem stateFrame_kindAgrees :
    kindAgrees (linkFrame 0x31 station identity (stateBytes r) 0) = true := by
  have total := stateBytes_length r
  have flag := (stateFrame_flags (station := station) (identity := identity) (r := r)).2.1
  have length : byteAt (linkFrame 0x31 station identity (stateBytes r) 0) 1 =
      6 + (stateBytes r).length := linkFrame_length (by rw [total]; split <;> omega)
  rw [kindAgrees, linkFrame_kind (by omega), length, total, flag]
  cases r.claim <;> rfl

end

/-! ## Every frame -/

/-- R41: a frame with a station number, link revision 1 and a kind that agrees is valid. -/
theorem linkFrame_valid {kind station : Nat} {identity : BitVec 32} {payload : List Byte}
    (low : 1 ≤ station) (high : station ≤ 48) (revision : identity.extractLsb' 28 4 = 1)
    (known : payload.length = 0 ∨ payload.length = 3 ∨ payload.length = 16 ∨ payload.length = 22)
    (agrees : kindAgrees (linkFrame kind station identity payload 0) = true) :
    validFrame (linkFrame kind station identity payload 0) = true := by
  rw [validFrame, linkFrame_complete known, linkFrame_crcGood (by omega), agrees,
    linkFrame_station (by omega), linkFrame_revision revision]
  simp [low, high]

section

variable {station : Nat} {identity : BitVec 32}

theorem parseFrame_encode_state {r : StateFrame} (low : 1 ≤ station) (high : station ≤ 48)
    (revision : identity.extractLsb' 28 4 = 1) (id : r.report.identity = identity)
    (fits : r.Fits) :
    parseFrame (Frame.encode ⟨station, identity, .state r⟩ 0) = some ⟨station, identity, .state r⟩ := by
  have total := stateBytes_length r
  have valid := linkFrame_valid low high revision (by rw [total]; split <;> omega)
    (stateFrame_kindAgrees (r := r))
  show parseFrame (linkFrame 0x31 station identity (stateBytes r) 0) = _
  rw [parseFrame, if_pos valid, linkFrame_station (by omega), linkFrame_identity,
    linkFrame_kind (by omega), stateFrame_readState fits id]
  rfl

theorem parseFrame_encode_shed {c : ShedCall} (low : 1 ≤ station) (high : station ≤ 48)
    (revision : identity.extractLsb' 28 4 = 1) (level : c.level < 256) (needed : c.needed < 65536) :
    parseFrame (Frame.encode ⟨station, identity, .shed c⟩ 0) = some ⟨station, identity, .shed c⟩ := by
  have agrees : kindAgrees
      (linkFrame 0x32 station identity (be8 c.level ++ be16 c.needed) 0) = true := by
    rw [kindAgrees, linkFrame_kind (by omega), linkFrame_length (by simp)]
    rfl
  have sentLevel : byteAt (linkFrame 0x32 station identity (be8 c.level ++ be16 c.needed) 0) 8 =
      c.level := toNat_byte level
  have sentLoad : wordAt (linkFrame 0x32 station identity (be8 c.level ++ be16 c.needed) 0) 9 =
      c.needed :=
    (linkFrame_wordAt (i := 1) (by simp)).trans
      ((wordAt_append_right (be8 c.level) _ 0).trans (wordAt_be16_self needed))
  show parseFrame (linkFrame 0x32 station identity (be8 c.level ++ be16 (min 65535 c.needed)) 0) = _
  rw [Nat.min_eq_right (by omega), parseFrame,
    if_pos (linkFrame_valid low high revision (.inr (.inl rfl)) agrees),
    linkFrame_station (by omega), linkFrame_identity, linkFrame_kind (by omega), sentLevel, sentLoad]
  rfl

theorem parseFrame_encode_leave (low : 1 ≤ station) (high : station ≤ 48)
    (revision : identity.extractLsb' 28 4 = 1) :
    parseFrame (Frame.encode ⟨station, identity, .leave⟩ 0) = some ⟨station, identity, .leave⟩ := by
  have agrees : kindAgrees (linkFrame 0x33 station identity [] 0) = true := by
    rw [kindAgrees, linkFrame_kind (by omega), linkFrame_length (by simp)]
    rfl
  show parseFrame (linkFrame 0x33 station identity [] 0) = _
  rw [parseFrame, if_pos (linkFrame_valid low high revision (.inl rfl) agrees),
    linkFrame_station (by omega), linkFrame_identity, linkFrame_kind (by omega)]
  rfl

end

/-- Settles O60: each kind of frame by its payload, each request by its code and length. -/
theorem framesReadBackAsSent : Obligations.FramesReadBackAsSent := by
  refine ⟨fun f low high revision state shed => ?_, fun record n slot count set mask length => ?_,
    fun code payload fits other => ?_⟩
  · obtain ⟨station, identity, body⟩ := f
    cases body with
    | state r =>
      obtain ⟨id, stationState, unitMode, level, staged, fan, cap, ceiling, offer, temp, claim⟩ :=
        state r rfl
      refine parseFrame_encode_state low high revision id ⟨stationState, unitMode, level,
        staged, fan, cap, ceiling, offer, temp, fun c hc => ?_⟩
      obtain ⟨serial, slotCode, increment, claimLevel, intended⟩ := claim c hc
      exact ⟨serial, slotCode, increment, claimLevel, intended⟩
    | shed c =>
      obtain ⟨level, needed⟩ := shed c rfl
      exact parseFrame_encode_shed low high revision level needed
    | leave => exact parseFrame_encode_leave low high revision
  · have known {code : Nat} {payload : List Byte} (small : code < 256)
        (fits : payload.length ≤ 254)
        (h : requestLength code = some (1 + payload.length)) :
        readRequest (requestFrame code payload) = requestOf code payload := by
      rw [readRequest_requestFrame small fits, if_pos h]
    refine ⟨known (by omega) (by omega) (by rw [length]; rfl), known (by omega) (by simp) rfl,
      known (by omega) (by simp) rfl, known (by omega) (by simp) rfl, known (by omega) (by simp) rfl,
      ?_, known (by omega) (by simp) rfl, known (by omega) (by simp) rfl,
      known (by omega) (by simp) rfl, known (by omega) (by simp) rfl, ?_⟩
    · rw [known (by omega) (by simp) rfl, requestOf, be24_reads]
    · rw [known (by omega) (by simp) rfl, requestOf, wordAt_be16 _ mask.isLt, BitVec.ofNat_toNat,
        BitVec.setWidth_eq]
      rfl
  · rw [readRequest_requestFrame code.isLt fits, if_neg other, BitVec.ofNat_toNat,
      BitVec.setWidth_eq]

end Sys2Proof.Machine

/-! # An entry's timers (R54, R55, R57, R61, R116, R123, R124) -/

namespace Sys2Proof.Machine

/-! ## An entry written -/

/-- `t` is `s` with the entry of station `n` written, and beside the table at most what an event
of the plant can write. -/
structure State.Writes (s : State) (n : Nat) (e : Entry) (t : State) : Prop where
  entry : ∀ m : Nat, t.entry m = if m = n then e else s.entry m
  frame : s.stageFrame { t with table := s.table }

section
variable {s t u : State} {n : Nat} {e : Entry}

theorem State.setEntry_writes (s : State) (hn : 1 ≤ n ∧ n ≤ 48) (e : Entry) :
    s.Writes n e (s.setEntry n e) where
  entry m := s.entry_setEntry n m e hn
  frame := by
    rw [State.setEntry, dif_pos hn]
    exact ⟨rfl, rfl⟩

theorem State.Writes.trans (h : s.Writes n e t) (k : t.stageFrame u) : s.Writes n e u where
  entry m := (State.entry_congr (by rw [k.table_eq]) m).trans (h.entry m)
  frame := State.stageFrame_trans h.frame ⟨by rw [k.1], k.2⟩

theorem State.Writes.recompute (h : s.Writes n e t) : s.Writes n e t.recomputeCeiling where
  entry m := (State.entry_congr (by rw [t.recomputeCeiling_table]) m).trans (h.entry m)
  frame := by
    rw [t.recomputeCeiling_eq]
    exact State.stageFrame_trans h.frame ⟨rfl, rfl⟩

theorem State.Writes.self (h : s.Writes n e t) : t.entry n = e := by rw [h.entry, if_pos rfl]

theorem State.Writes.other (h : s.Writes n e t) (m : Nat) (hm : m ≠ n) : t.entry m = s.entry m := by
  rw [h.entry, if_neg hm]

theorem State.Writes.cfg_eq (h : s.Writes n e t) : t.cfg = s.cfg :=
  State.cfg_congr h.frame.config_eq

end

/-- An entry with a running timer is that of a station of the roof. -/
theorem State.entry_inside {s : State} {n : Nat} (h : s.entry n ≠ Entry.blank) :
    1 ≤ n ∧ n ≤ 48 := by
  by_contra outside
  exact h (s.entry_outside outside)

/-! ## FRESHNESS_EXPIRY -/

/-- R54, R61: the entry aged and the ceiling recomputed, before the plant hears of it. -/
def State.aged (s : State) (n : Nat) : State := (s.setEntry n (s.entry n).age).recomputeCeiling

theorem State.freshnessExpiry_runs {s : State} {n : Nat} (hp : s.powered = true)
    (timer : (s.entry n).freshness.isSome = true) (heard : (s.entry n).state.heard = true) :
    exec (.freshnessExpiry n) s =
      .next (((s.aged n).entryChanged (s.entry n).mark).settleInto s) := by
  change execFreshnessExpiry n s = _
  rw [execFreshnessExpiry, State.event_runs s _ _ hp (by rw [timer, heard]; rfl), State.aged]

/-- R54, R57, R61: the entry, the ceiling, and the plant's reaction. -/
theorem State.freshnessExpiry_ages {s : State} {n : Nat} (hp : s.powered = true)
    (timer : (s.entry n).freshness.isSome = true) (heard : (s.entry n).state.heard = true) :
    ∃ t, exec (.freshnessExpiry n) s = .next t ∧ s.Writes n (s.entry n).age t ∧ t.CeilingLeast := by
  have hn : 1 ≤ n ∧ n ≤ 48 := State.entry_inside fun blank => by
    rw [blank] at timer
    cases timer
  have written : s.Writes n (s.entry n).age (s.aged n) := (s.setEntry_writes hn _).recompute
  have least : (s.aged n).CeilingLeast := State.recomputeCeiling_least _
  have reacts := State.stageFrame_trans ((s.aged n).entryChanged_frame (s.entry n).mark)
    (State.settleInto_frame _ s)
  exact ⟨_, State.freshnessExpiry_runs hp timer heard, written.trans reacts,
    least.congr reacts.table_eq reacts.config_eq⟩

/-! ## CLAIM_HOLD_EXPIRY -/

/-- R55: the claim part dropped from the entry, before the plant hears of it. -/
def State.claimDropped (s : State) (n : Nat) : State := s.setEntry n (s.entry n).dropClaim

theorem State.claimHoldExpiry_runs {s : State} {n : Nat} (hp : s.powered = true)
    (timer : (s.entry n).claimHold.isSome = true) :
    exec (.claimHoldExpiry n) s =
      .next (((s.claimDropped n).entryChanged (s.entry n).mark).settleInto s) := by
  change execClaimHoldExpiry n s = _
  rw [execClaimHoldExpiry, State.event_runs s _ _ hp timer, State.claimDropped]

theorem State.claimDropped_writes {s : State} {n : Nat}
    (timer : (s.entry n).claimHold.isSome = true) :
    s.Writes n (s.entry n).dropClaim (s.claimDropped n) :=
  s.setEntry_writes (State.entry_inside fun blank => by rw [blank] at timer; cases timer) _

theorem State.claimDropped_reacts (s : State) (n : Nat) (marked : Bool) :
    (s.claimDropped n).stageFrame (((s.claimDropped n).entryChanged marked).settleInto s) :=
  State.stageFrame_trans (State.entryChanged_frame _ marked) (State.settleInto_frame _ s)

theorem State.claimDropped_fault (s : State) (n : Nat) (marked : Bool) :
    (((s.claimDropped n).entryChanged marked).settleInto s).fault = s.fault := by
  rw [State.settleInto_fault, State.entryChanged_fault, State.claimDropped, State.setEntry_fault]

/-! ## A station bound to yield (R124) -/

/-- What the formation of the demand, the calls and the economizer reads is the same wherever at
most the plant moved. -/
theorem State.stageFrame.formedOf {s t : State} (h : s.stageFrame t) (m : ModeLogic) :
    t.formedOf m = s.formedOf m := by
  have aim : s.SameAim { t with stage := s.stage } :=
    { config := h.config_eq, table := h.table_eq, scan := h.scan_eq, inputs := h.inputs_eq
      working := by rw [← h.station_eq]
      inConfig := by rw [← h.station_eq]
      counts := fun _ => rfl }
  exact aim.formedOf m

/-- R124: the station works, its demand level is below 7 and a heard neighbour opposes side `d`: a
yield hold for `d` has not come to its end. -/
structure State.Bound (s : State) (d : Side) : Prop where
  working : s.station.state.working = true
  low : s.formed.level < 7
  opposed : s.opposed d = true

theorem State.Bound.of_stageFrame {s t : State} {d : Side} (b : s.Bound d) (h : s.stageFrame t) :
    t.Bound d where
  working := by rw [h.station_eq]; exact b.working
  low := by
    have formed : t.formed = s.formedOf t.mode := h.formedOf t.mode
    rw [formed]
    exact b.low
  opposed := by
    rw [State.opposed, h.table_eq]
    exact b.opposed

/-- R123, R124: a mode on no side, with the yield hold and the changeover timer of side `d`. -/
structure ModeLogic.HeldOff (d : Side) (m : ModeLogic) : Prop where
  hold : m.yieldHold = some d
  changeover : m.changeover = some changeoverTime
  changeoverSide : m.changeoverSide = d
  off : m.mode.side = none

/-- R116, R118, R124: such a mode at the end of an evaluation: nothing wanted, VENT or OFF by the
fan. -/
structure ModeLogic.Yields (d : Side) (m : ModeLogic) : Prop extends ModeLogic.HeldOff d m where
  wantedCool : m.wantedCool = 0
  wantedHeat : m.wantedHeat = 0
  named : m.mode = if m.fan then .vent else .off
  fullOpen : m.fullOpen = .stopped

/-- R123: the hold blocks its own side, the changeover timer the other. -/
theorem ModeLogic.HeldOff.unwanted {d : Side} {m : ModeLogic} (h : m.HeldOff d) (s : State)
    (c : Side) (first second : Bool) : s.wantedOf m c first second = 0 := by
  refine if_pos ?_
  cases c <;> cases d <;>
    simp [h.hold, ModeLogic.blocked, h.changeover, h.changeoverSide, Side.opposite]

/-- R120: neither side of a hold lets ECON be entered. -/
theorem ModeLogic.HeldOff.no_econ {d : Side} {m : ModeLogic} (h : m.HeldOff d) (s : State) :
    s.econEntry m = false := by
  cases d <;>
    simp [State.econEntry, ModeLogic.blocked, h.hold, h.changeover, h.changeoverSide, Side.opposite]

theorem ModeLogic.HeldOff.formUnitMode {d : Side} {m : ModeLogic} (h : m.HeldOff d) {s : State}
    (working : s.station.state.working = true) : s.formUnitMode m = m := by
  have off := h.off
  rw [State.formUnitMode, if_pos working]
  split <;> simp_all [UnitMode.side, h.no_econ s]

theorem ModeLogic.HeldOff.yieldEnd {d : Side} {m : ModeLogic} (h : m.HeldOff d) {s : State}
    (b : s.Bound d) (level : m.level = s.formed.level) : s.yieldEnd m = m := by
  have low := b.low
  refine State.yieldEnd_held fun c hc => ?_
  rw [h.hold] at hc
  cases hc
  rw [State.yieldEnds, b.opposed, level, b.working]
  simp
  omega

/-- R116, R118, R126 to R130: the rest of an evaluation. -/
theorem ModeLogic.HeldOff.yields {d : Side} {m : ModeLogic} (h : m.HeldOff d) {s : State}
    (cause : EvalCause) (b : s.Bound d) (level : m.level = s.formed.level) :
    (s.formDamper
      (s.formFan cause (s.formWanted (s.formUnitMode (s.yieldEnd m)))).name).Yields d := by
  rw [h.yieldEnd b level, h.formUnitMode b.working]
  have fan := s.formFan_eq cause (s.formWanted m)
  generalize s.formFan cause (s.formWanted m) = f at *
  have off : f.mode.side = none := by rw [fan]; exact h.off
  have name : f.name = { f with mode := if f.fan then .vent else .off } := by
    rw [ModeLogic.name, off]
  rw [name, fan]
  exact
    { hold := h.hold
      changeover := h.changeover
      changeoverSide := h.changeoverSide
      off := by
        show UnitMode.side (if f.fan = true then .vent else .off) = none
        split <;> rfl
      wantedCool := h.unwanted s .cooling _ _
      wantedHeat := h.unwanted s .heating _ _
      named := rfl
      fullOpen := by
        refine if_neg ?_
        show ¬ ((if f.fan = true then UnitMode.vent else .off) = .econ ∧ _)
        split <;> simp }

/-- R124: an evaluation of a station that yields. -/
theorem State.Bound.formMode {s : State} {d : Side} (b : s.Bound d) (h : s.mode.HeldOff d) :
    (s.formMode .plain).Yields d := by
  have formed : s.formed.HeldOff d := ⟨h.hold, h.changeover, h.changeoverSide, h.off⟩
  rw [State.formMode_plain (State.working_not_config b.working)]
  exact formed.yields .plain b rfl

/-- R124: the update that finds the station bound to yield. -/
theorem State.Bound.yieldTest {s : State} {d : Side} (b : s.Bound d)
    (side : s.mode.mode.side = some d) (free : s.mode.yieldHold = none)
    (bound : s.boundToYield s.formed d = true) : (s.formMode .neighbourUpdate).Yields d := by
  have tested : s.yieldTest s.formed =
      { s.formed.loadChangeover d with yieldHold := some d, mode := .off } := by
    have formedSide : s.formed.mode.side = some d := side
    have formedFree : s.formed.yieldHold = none := free
    rw [State.yieldTest, formedSide, formedFree]
    exact if_pos (by simp [b.working, b.low, bound])
  have held : (s.yieldTest s.formed).HeldOff d := by
    rw [tested]
    exact ⟨rfl, rfl, rfl, rfl⟩
  have formed : s.formMode .neighbourUpdate = s.formDamper (s.formFan .neighbourUpdate
      (s.formWanted (s.formUnitMode (s.yieldEnd (s.yieldTest s.formed))))).name := by
    simp only [State.formMode, if_neg (State.working_not_config b.working), reduceCtorEq, if_false,
      if_true]
    rfl
  rw [formed]
  exact held.yields _ b (by rw [tested]; rfl)

/-! ## Yielding to the end of the event -/

/-- R116, R123, R124: what the evaluations and stops of the event make of a station bound to yield
at `s`. -/
structure State.Yielding (s : State) (d : Side) (t : State) : Prop where
  frame : s.stageFrame t
  mode : t.mode.Yields d
  idle : t.runningCount d.opposite = 0

theorem ModeLogic.Yields.loadChangeover {d : Side} {m : ModeLogic} (h : m.Yields d) :
    (m.loadChangeover d).Yields d where
  hold := h.hold
  changeover := rfl
  changeoverSide := rfl
  off := h.off
  wantedCool := h.wantedCool
  wantedHeat := h.wantedHeat
  named := h.named
  fullOpen := h.fullOpen

/-- R123: only the yielding side can have had a last stage to stop. -/
theorem ModeLogic.Yields.movedMode {d : Side} {t before : State} (h : t.mode.Yields d)
    (idle : before.runningCount d.opposite = 0) : (t.movedMode before).Yields d := by
  have last {c : Side} (none : before.runningCount c = 0) :
      (decide (0 < before.runningCount c) && t.runningCount c == 0) = false := by simp [none]
  cases d with
  | cooling =>
    simp only [State.movedMode, last (c := .heating) idle, Bool.false_eq_true, if_false]
    split
    · exact h.loadChangeover
    · exact h
  | heating =>
    simp only [State.movedMode, last (c := .cooling) idle, Bool.false_eq_true, if_false]
    split
    · exact h.loadChangeover
    · exact h

theorem State.runningCount_stopSlot {s : State} {d : Side} (i : Slot)
    (h : s.runningCount d = 0) : (s.stopSlot i).runningCount d = 0 := by
  simp only [State.runningCount, List.length_eq_zero_iff, List.filter_eq_nil_iff] at h ⊢
  intro j hj
  simp [State.isRunning_stopSlot, h j hj]

theorem State.wanted_of_yields {t : State} {d : Side} (h : t.mode.Yields d) (c : Side) :
    t.wanted c = 0 := by
  cases c with
  | cooling => exact h.wantedCool
  | heating => exact h.wantedHeat

namespace State.Yielding

variable {s t : State} {d : Side}

/-- What moves no slot. -/
theorem unmoved (k : s.Yielding d t) {u : State} (frame : t.stageFrame u) (mode : u.mode.Yields d)
    (slots : u.stage.slots = t.stage.slots) : s.Yielding d u where
  frame := State.stageFrame_trans k.frame frame
  mode := mode
  idle := (State.runningCount_congr (State.isRunning_congr slots) _).trans k.idle

theorem evaluateOnce (b : s.Bound d) (k : s.Yielding d t) :
    s.Yielding d (t.evaluateOnce .plain) := by
  refine k.unmoved (t.evaluateOnce_frame .plain) ?_ (t.evaluateOnce_stage .plain).1
  rw [State.evaluateOnce_mode]
  exact (b.of_stageFrame k.frame).formMode k.mode.toHeldOff

theorem stopSlot (k : s.Yielding d t) (i : Slot) : s.Yielding d (t.stopSlot i) where
  frame := State.stageFrame_trans k.frame (t.stopSlot_frame i)
  mode := by rw [State.stopSlot_mode]; exact k.mode
  idle := State.runningCount_stopSlot i k.idle

theorem reportStages (k : s.Yielding d t) {before : State}
    (idle : before.runningCount d.opposite = 0) : s.Yielding d (t.reportStages before) := by
  refine k.unmoved (t.reportStages_frame before) ?_ (by rw [State.reportStages_stage])
  have moved := k.mode.movedMode idle
  rw [State.reportStages_eq]
  split
  · exact moved
  · rw [State.requestState_mode]
    exact moved

theorem reportMove (b : s.Bound d) (k : s.Yielding d t) {before : State}
    (idle : before.runningCount d.opposite = 0) : s.Yielding d (t.reportMove before) := by
  unfold State.reportMove
  split
  · exact k
  · exact evaluateOnce b (k.reportStages idle)

theorem stops (b : s.Bound d) (l : List Slot) (k : s.Yielding d t) :
    s.Yielding d (t.moveEach State.stopSlot l) := by
  induction l generalizing t with
  | nil => exact k
  | cons i rest ih =>
    rw [State.moveEach_cons]
    exact ih (reportMove b (k.stopSlot i) k.idle)

theorem serveWanted (b : s.Bound d) (fuel : Nat) :
    ∀ (tested : ModeLogic) (t : State), s.Yielding d t →
      s.Yielding d (State.serveWanted fuel tested t) := by
  induction fuel with
  | zero => exact fun _ _ k => k
  | succ n ih =>
    intro tested t k
    unfold State.serveWanted
    split
    · exact k
    · exact ih _ _ (stops b _ k)

/-- R141: with nothing wanted no slot can be selected. -/
theorem unselected (k : s.Yielding d t) (i : Slot) : t.selectable i = false := by
  rw [State.selectable, State.wanted_of_yields k.mode]
  simp

theorem settleInto (k : s.Yielding d t) (before : State) : (t.settleInto before).mode.Yields d := by
  rw [State.settleInto_unselected before k.unselected]
  exact k.mode

end State.Yielding

/-- R124: the whole of the evaluation that holds the yield, with the stops it brings. -/
theorem State.Bound.evaluate {s : State} {d : Side} (b : s.Bound d)
    (side : s.mode.mode.side = some d) (free : s.mode.yieldHold = none)
    (bound : s.boundToYield s.formed d = true) (idle : s.runningCount d.opposite = 0) :
    s.Yielding d (s.evaluate .neighbourUpdate) := by
  refine Yielding.serveWanted b 4 _ _ ⟨s.evaluateOnce_frame _, ?_, ?_⟩
  · rw [State.evaluateOnce_mode]
    exact b.yieldTest side free bound
  · rw [State.runningCount_congr (State.isRunning_congr (s.evaluateOnce_stage _).1)]
    exact idle

theorem StationState.reports_of_working {c : StationState} (h : c.working = true) :
    c.reports = true := by
  cases c with
  | sharing | isolated | solo => rfl
  | config | joining | shutdown | left => cases h

/-- R40, R108: an evaluation that changes the unit mode requests a STATE. -/
theorem State.evaluate_waiting {s : State} {cause : EvalCause}
    (reports : s.station.state.reports = true)
    (changed : (s.formMode cause).mode ≠ s.mode.mode) :
    (s.evaluate cause).link.stateSlot.waiting = true := by
  refine (State.serveWanted_asked _ _ _).state ?_
  have mode := s.evaluateOnce_mode cause
  have station := (s.evaluateOnce_frame cause).station_eq
  have kept (t : State) : (t.handReport s.mode).mode = t.mode ∧
      (t.handReport s.mode).station = t.station := by
    unfold State.handReport
    split
    · exact ⟨rfl, rfl⟩
    · exact ⟨t.requestState_mode false, t.requestState_station false⟩
  rw [State.evaluateOnce] at mode station ⊢
  rw [(kept _).1] at mode
  rw [(kept _).2] at station
  rw [State.handReport, if_neg (by rw [mode]; exact fun same => changed same.1)]
  exact State.requestState_waiting false (by rw [station]; exact reports)

/-! ## The neighbour that is yielded to -/

/-- The table's entries in station order. -/
theorem State.entries_eq (s : State) :
    s.table.entries.toList = (List.range 48).map fun k => s.entry (k + 1) := by
  refine List.ext_getElem (by simp) fun k hk _ => ?_
  have small : k < 48 := by simpa using hk
  rw [List.getElem_map, List.getElem_range, State.entry, dif_pos ⟨by omega, by omega⟩]
  rfl

theorem State.mem_numbered (s : State) {m : Nat} (hm : 1 ≤ m ∧ m ≤ 48) :
    (m, s.entry m) ∈ s.numbered := by
  refine List.mem_map.2 ⟨(s.entry m, m - 1), List.mem_zipIdx_iff_getElem?.2 ?_, ?_⟩
  · rw [s.entries_eq, List.getElem?_map, List.getElem?_range (by omega)]
    simp [Nat.sub_add_cancel hm.1]
  · simp [Nat.sub_add_cancel hm.1]

/-- R124: the marked entry of station `m` is FRESH and reports `r` on the side opposite `d`. -/
structure State.Opposes (s : State) (m : Nat) (r : Report) (d : Side) : Prop where
  fresh : (s.entry m).state = .fresh
  mark : (s.entry m).mark = true
  report : (s.entry m).report = some r
  side : opposes d r.unitMode = true

theorem opposes_iff (d : Side) (code : Nat) :
    opposes d code = true ↔ if d = .cooling then code = 4 else code = 3 ∨ code = 2 := by
  cases d <;> simp [opposes]

section
variable {s : State} {m : Nat} {r : Report} {d : Side}

theorem State.Opposes.inside (h : s.Opposes m r d) : 1 ≤ m ∧ m ≤ 48 :=
  State.entry_inside fun blank => by
    have fresh := h.fresh
    rw [blank] at fresh
    cases fresh

theorem State.Opposes.opposed (h : s.Opposes m r d) : s.opposed d = true := by
  refine List.any_eq_true.2 ⟨s.entry m, (s.mem_entries _).2 ⟨m, h.inside, rfl⟩, ?_⟩
  simp [h.fresh, EntryState.heard, h.mark, h.report, h.side]

/-- R124: a greater demand level, or the same one with a lower number, is yielded to. -/
theorem State.Opposes.boundToYield (h : s.Opposes m r d) {mode : ModeLogic}
    (urgent : mode.level < r.level ∨ (r.level = mode.level ∧ m < s.number)) :
    s.boundToYield mode d = true := by
  refine List.any_eq_true.2 ⟨(m, s.entry m), s.mem_numbered h.inside, ?_⟩
  simpa [h.fresh, h.mark, h.report, h.side] using urgent

end

/-! ## The yield at a claim hold expiry -/

section
variable {s : State} {n : Nat}

/-- R55: of an entry the claim part alone is dropped. -/
theorem State.claimDropped_entry (timer : (s.entry n).claimHold.isSome = true) (m : Nat) :
    (s.claimDropped n).entry m =
      { s.entry m with
        claim := ((s.claimDropped n).entry m).claim
        claimHold := ((s.claimDropped n).entry m).claimHold } := by
  rw [(State.claimDropped_writes timer).entry m]
  split
  · rename_i same
    rw [same]
    rfl
  · rfl

theorem State.claimDropped_eq (s : State) (n : Nat) :
    s.claimDropped n = { s with table := (s.claimDropped n).table } := by
  unfold State.claimDropped State.setEntry
  split <;> rfl

theorem State.claimDropped_opposes (timer : (s.entry n).claimHold.isSome = true) {m : Nat}
    {r : Report} {d : Side} (h : s.Opposes m r d) : (s.claimDropped n).Opposes m r d := by
  have entry := State.claimDropped_entry timer m
  exact ⟨by rw [entry]; exact h.fresh, by rw [entry]; exact h.mark, by rw [entry]; exact h.report,
    h.side⟩

/-- R109, R112, R113: no claim part is read for the demand. -/
theorem State.claimDropped_formDemand (timer : (s.entry n).claimHold.isSome = true)
    (m : ModeLogic) : (s.claimDropped n).formDemand m = s.formDemand m := by
  have contributing : (s.claimDropped n).contributing = s.contributing := by
    rw [State.contributing, State.contributing, State.entries_eq, State.entries_eq,
      List.filterMap_map, List.filterMap_map]
    refine List.filterMap_congr fun k _ => ?_
    simp only [Function.comp_apply]
    rw [State.claimDropped_entry timer]
  rw [State.claimDropped_eq] at contributing ⊢
  simp only [State.formDemand, State.zoneReading, contributing]
  rfl

/-- R124: the station bound to yield yields. -/
theorem State.claimHoldExpiry_yields {m : Nat} {r : Report} {d : Side}
    (timer : (s.entry n).claimHold.isSome = true) (working : s.station.state.working = true)
    (side : s.mode.mode.side = some d) (free : s.mode.yieldHold = none)
    (low : (s.formDemand s.mode).level < 7) (idle : s.runningCount d.opposite = 0)
    (opposes : s.Opposes m r d)
    (urgent : (s.formDemand s.mode).level < r.level ∨
      (r.level = (s.formDemand s.mode).level ∧ m < s.number)) :
    (s.claimDropped n).Yielding d ((s.claimDropped n).evaluate .neighbourUpdate) ∧
      ((s.claimDropped n).evaluate .neighbourUpdate).link.stateSlot.waiting = true := by
  have level : (s.claimDropped n).formed.level = (s.formDemand s.mode).level := by
    rw [← State.claimDropped_formDemand timer, State.claimDropped_eq]
    rfl
  have opposes := State.claimDropped_opposes timer opposes
  have moved := s.claimDropped_eq n
  generalize s.claimDropped n = u at *
  have number : u.number = s.number := by rw [moved]; rfl
  have side : u.mode.mode.side = some d := by rw [moved]; exact side
  have free : u.mode.yieldHold = none := by rw [moved]; exact free
  have idle : u.runningCount d.opposite = 0 := by rw [moved]; exact idle
  have working : u.station.state.working = true := by rw [moved]; exact working
  have bound : u.Bound d := ⟨working, by rw [level]; exact low, opposes.opposed⟩
  have urged : u.boundToYield u.formed d = true :=
    opposes.boundToYield (by rw [level, number]; exact urgent)
  refine ⟨bound.evaluate side free urged idle, State.evaluate_waiting ?_ fun same => ?_⟩
  · exact StationState.reports_of_working working
  · have off := (bound.yieldTest side free urged).off
    rw [same, side] at off
    cases off

end

/-- Settles O33: an entry aged twice, its claim part dropped, and the yield. -/
theorem entriesAge : Obligations.EntriesAge := by
  refine ⟨fun s n hp fresh timer => ?_, fun s n hp stale timer => ?_, fun s n hp timer => ?_,
    fun s n m r d hp timer mark working side free low idle fresh marked report opposite urgent =>
      ?_⟩
  · obtain ⟨t, runs, writes, below, least, attained⟩ :=
      State.freshnessExpiry_ages hp timer (by rw [fresh]; rfl)
    have aged : (s.entry n).age = { s.entry n with state := .stale, freshness := some 5000 } := by
      rw [Entry.age, fresh]
      rfl
    rw [writes.cfg_eq] at below attained
    exact ⟨t, runs, writes.self.trans aged, writes.other, below, least, attained, writes.frame⟩
  · obtain ⟨t, runs, writes, below, least, attained⟩ :=
      State.freshnessExpiry_ages hp timer (by rw [stale]; rfl)
    have aged : (s.entry n).age =
        { s.entry n with state := .lost, freshness := none, claim := none, claimHold := none } := by
      rw [Entry.age, stale]
    rw [writes.cfg_eq] at below attained
    exact ⟨t, runs, writes.self.trans aged, writes.other, below, least, attained, writes.frame⟩
  · have reacts := s.claimDropped_reacts n (s.entry n).mark
    have writes := (State.claimDropped_writes timer).trans reacts
    refine ⟨_, State.claimHoldExpiry_runs hp timer, writes.self, writes.other, ?_,
      s.claimDropped_fault n _, writes.frame⟩
    rw [reacts.table_eq]
    exact s.setEntry_ceiling n _
  · obtain ⟨yielding, waiting⟩ := State.claimHoldExpiry_yields timer working side free low idle
      ⟨fresh, marked, report, (opposes_iff d r.unitMode).2 opposite⟩ urgent
    have frame := ((State.claimDropped_writes timer).trans
      (s.claimDropped_reacts n (s.entry n).mark)).frame
    have fault := s.claimDropped_fault n (s.entry n).mark
    have runs := State.claimHoldExpiry_runs hp timer
    rw [mark, State.entryChanged, if_pos rfl] at frame fault runs
    have ends := yielding.settleInto s
    have asked := (State.settleInto_asked _ s).state waiting
    refine ⟨_, runs, ends.hold, ends.changeover, ends.changeoverSide,
      State.wanted_of_yields ends d, State.wanted_of_yields ends d.opposite, ends.named,
      ends.fullOpen, asked, fault, frame⟩

end Sys2Proof.Machine

/-! # The pre-check at the end of a wait (R59, R60, R70, R71, R76 to R79, R85, R86) -/

namespace Sys2Proof.Machine

/-! ## The wait over -/

/-- R85, R86: the unit back in IDLE at the end of a holdoff or a shed wait. -/
def State.released (s : State) : State := { s with adm.holdoff := none, adm.state := .idle }

/-- The end of a holdoff or of a shed wait. -/
theorem State.waitExpiry_runs {c : Instr} {s : State} (hp : s.powered = true)
    (wait : (c = .holdoffExpiry ∧ s.adm.state = .holdoff) ∨
      (c = .shedWaitExpiry ∧ s.adm.state = .shedWait))
    (timer : s.adm.holdoff.isSome = true) : exec c s = .next (s.released.settleInto s) := by
  rcases wait with ⟨rfl, state⟩ | ⟨rfl, state⟩
  · change execHoldoffExpiry s = _
    rw [execHoldoffExpiry, State.event_runs s _ _ hp (by rw [timer, state]; rfl), State.released]
  · change execShedWaitExpiry s = _
    rw [execShedWaitExpiry, State.event_runs s _ _ hp (by rw [timer, state]; rfl), State.released]

theorem State.released_settled (s : State) :
    (s.released.settleInto s).fault = s.fault ∧ s.stageFrame (s.released.settleInto s) :=
  ⟨State.settleInto_fault s.released s,
    State.stageFrame_trans (b := s.released) ⟨rfl, rfl⟩ (State.settleInto_frame _ s)⟩

/-! ## The request taken -/

/-- R70: nothing is taken with no request, at demand level 0, or outside the working states. -/
theorem State.takeRequest_passes {s : State}
    (h : s.stage.presented = none ∨ s.mode.level = 0 ∨ s.station.state.working = false) :
    s.takeRequest = s := by
  rcases h with none | level | off
  · rw [State.takeRequest, none]
  · unfold State.takeRequest
    split
    · rfl
    · rw [if_neg (by omega)]
  · exact State.takeRequest_held ((State.startsHeld_iff s).2 (.inr off))

/-- R70, R73: an IDLE unit in SHARING takes the request presented for slot `i`. -/
structure State.Asks (s : State) (i : Slot) : Prop where
  presented : s.stage.presented = some i
  idle : s.adm.state = .idle
  level : 1 ≤ s.mode.level
  sharing : s.station.state = .sharing

/-- R71: the claim level of a request taken now. -/
def State.callLevel (s : State) : Nat := claimLevel s.mode.level s.adm.denials

/-- R76: the headroom. -/
def State.headroom (s : State) : Int := (s.table.ceiling : Int) - (s.base + s.heldTotal : Nat)

/-- R76: the state in which the pre-check decides: the claim level and the headroom noted. -/
def State.preChecked (s : State) : State := s.judged s.callLevel s.headroom

/-- R76, R78: the load that a request for slot `i` finds missing. -/
def State.missing (s : State) (i : Slot) : Nat :=
  s.base + s.heldTotal + s.increment i - s.table.ceiling

section
variable {s : State} {i : Slot}

theorem State.Asks.preCheck (h : s.Asks i) :
    s.takeRequest =
      ({ s with adm.lastLevel := s.callLevel } : State).preCheck i s.callLevel := by
  rw [State.takeRequest, h.presented]
  dsimp only
  rw [if_pos ⟨h.idle, h.level⟩, h.sharing]
  rfl

/-- R76, R77: with room a claim is opened. -/
theorem State.Asks.claims (h : s.Asks i)
    (fits : s.base + s.heldTotal + s.increment i ≤ s.table.ceiling) :
    s.takeRequest = s.preChecked.openClaim i s.callLevel :=
  h.preCheck.trans (if_pos fits)

/-- R76, R78: without room, at or above the shed threshold, a shed is called unless one was. -/
theorem State.Asks.sheds (h : s.Asks i)
    (full : s.table.ceiling < s.base + s.heldTotal + s.increment i)
    (high : s.cfg.shedThreshold ≤ s.callLevel) (spacing : s.adm.shedSpacing = none) :
    s.takeRequest = s.preChecked.callShed s.callLevel (s.missing i) :=
  h.preCheck.trans ((if_neg (Nat.not_le.2 full)).trans (if_pos ⟨high, by rw [spacing]; rfl⟩))

/-- R76, R79: else it is denied. -/
theorem State.Asks.denies (h : s.Asks i)
    (full : s.table.ceiling < s.base + s.heldTotal + s.increment i)
    (barred : s.callLevel < s.cfg.shedThreshold ∨ s.adm.shedSpacing.isSome = true) :
    s.takeRequest = s.preChecked.deny s.callLevel := by
  refine h.preCheck.trans ((if_neg (Nat.not_le.2 full)).trans (if_neg ?_))
  rintro ⟨high, spacing⟩
  rcases barred with low | running
  · exact Nat.not_le.2 low high
  · rw [Option.isNone_iff_eq_none.1 spacing] at running
    cases running

end

/-! ## The end of the event -/

/-- A decision that moves no stage and leaves the offer ends the event with a selection. -/
theorem State.settleInto_decided {s u before : State} (taken : s.select.takeRequest = u)
    (stages : u.stageStates = s.stageStates) (offer : u.offer = before.offer) :
    s.settleInto before = u.select.drivePins := by
  have served : s.serveStarts = u.select := by
    have same : u.stageStates = s.select.stageStates := stages
    rw [State.serveStarts, taken, State.stagesMoved_same same]
  have same : u.select.offer = before.offer := offer
  rw [State.settleInto, State.settleStarts, served, State.reportOffer, if_pos same]

/-- What evaluations, stops and selections keep of a decision holds at the end of the event. -/
theorem State.settleStarts_decided {P : State → Prop} (k : State.Keeps P)
    (select : ∀ s : State, P s → P s.select) {s : State} (before : State)
    (taken : P s.select.takeRequest) : P (s.settleStarts before) := by
  have served : P s.serveStarts := select _ (State.stagesMoved_keeps k _ _ taken)
  rw [State.settleStarts, State.reportOffer]
  split
  · exact served
  · exact k.request _ served

/-! ## A claim opened (R77) -/

/-- What the claim's report leaves of it: the Admission Unit but for its denials, the slot CLAIMED,
and what was asked of the queue. -/
structure State.ClaimKept (u : State) (i : Slot) (t : State) : Prop where
  adm : u.adm.SameButDenials t.adm
  slot : t.stageState i = .claimed
  link : u.link.Asked t.link

theorem State.claimKept_keeps (u : State) (i : Slot) : State.Keeps (u.ClaimKept i) where
  mode _ _ h := ⟨h.adm, h.slot, h.link⟩
  denials _ h := ⟨h.adm.reset, h.slot, h.link⟩
  fan s on h :=
    ⟨by rw [s.fanCommanded_adm on]; exact h.adm,
      (State.stageState_congr (s.fanCommanded_stage on).1 i).trans h.slot,
      by rw [s.fanCommanded_eq on]; exact h.link⟩
  request s h :=
    ⟨by rw [s.requestState_adm]; exact h.adm,
      (State.stageState_congr (by rw [s.requestState_stage]) i).trans h.slot,
      h.link.trans (s.requestState_asked false).toAsked⟩
  stop s j h :=
    ⟨by rw [s.stopSlot_adm]; exact h.adm, State.claimed_stopSlot j h.slot,
      by rw [s.stopSlot_link]; exact h.link⟩

theorem State.claimKept_settleInto {s u : State} {i : Slot} (before : State)
    (taken : s.select.takeRequest = u) (claimed : u.stageState i = .claimed) :
    u.ClaimKept i (s.settleInto before) := by
  have kept : u.ClaimKept i (s.settleStarts before) :=
    State.settleStarts_decided (u.claimKept_keeps i) (fun _ h => ⟨h.adm, h.slot, h.link⟩) before
      (by rw [taken]; exact ⟨.refl _, claimed, .refl _⟩)
  exact ⟨by rw [State.settleInto_adm]; exact kept.adm,
    (State.stageState_congr (by rw [State.settleInto_stage]) i).trans kept.slot,
    by rw [State.settleInto_link]; exact kept.link⟩

theorem State.openClaim_claimed (s : State) (i : Slot) (level : Nat) :
    (s.openClaim i level).stageState i = .claimed := by
  have slots : (s.openClaim i level).stage.slots =
      (s.setSlot i { s.slot i with state := .claimed }).stage.slots := by
    rw [State.openClaim, State.requestState_stage]
  rw [State.stageState_congr slots, State.stageState, State.slot_setSlot_self]

theorem State.openClaim_adm (s : State) (i : Slot) (level : Nat) :
    (s.openClaim i level).adm =
      { s.adm with
        lastSerial := s.adm.lastSerial + 1
        claim := some
          { serial := s.adm.lastSerial + 1, slot := i, increment := s.increment i, level := level
            intended := s.intendedFor i }
        settle := some settleTime, state := .settling } := by
  rw [State.openClaim, State.requestState_adm]
  rfl

theorem State.openClaim_waiting {s : State} (i : Slot) (level : Nat)
    (reports : s.station.state.reports = true) :
    (s.openClaim i level).link.stateSlot.waiting = true :=
  State.requestState_waiting false reports

theorem State.intendedFor_eq (s : State) (i : Slot) :
    s.intendedFor i =
      if s.runningCount (sideOf i) = 0 then if sideOf i = .cooling then .cool else .heat
      else .none := by
  unfold State.intendedFor
  cases sideOf i <;> rfl

/-! ## A shed called (R78) -/

/-- What a shed call makes of the unit and the queue (R32): the call is queued, or held while one is
CURRENT. -/
structure State.ShedCalled (s : State) (call : ShedCall) (u : State) : Prop where
  kept : u = { s with
    adm.shedSpacing := some shedSpacingTime, adm.holdoff := some shedWaitTime
    adm.state := .shedWait, link := u.link }
  queued : s.link.shedSlot ≠ .current →
    u.link.shedSlot.waiting = true ∧ u.link.shedCall = call
  held : s.link.shedSlot = .current → u.link.heldShed = some call

theorem State.callShed_calls {s : State} (level needed : Nat)
    (sharing : s.station.state = .sharing) :
    s.ShedCalled ⟨level, needed⟩ (s.callShed level needed) := by
  rw [State.callShed, State.requestShed, if_pos sharing]
  dsimp only
  split
  · rename_i current
    exact ⟨rfl, fun other => absurd current other, fun _ => rfl⟩
  · rename_i other
    have asked := State.serveLink_asked
      { s with
        adm.shedSpacing := some shedSpacingTime, adm.holdoff := some shedWaitTime
        adm.state := .shedWait, link.shedSlot := .queued, link.shedCall := ⟨level, needed⟩ }
    exact ⟨rfl, fun _ => ⟨asked.shed, asked.shedCall⟩, fun current => absurd current other⟩

/-- R78: the end of a wait that calls for a shed. -/
theorem State.released_sheds {s : State} {i : Slot} (h : s.released.select.Asks i)
    (full : s.table.ceiling < s.base + s.heldTotal + s.increment i)
    (high : s.cfg.shedThreshold ≤ s.callLevel) (spacing : s.adm.shedSpacing = none) :
    ∃ u, s.released.settleInto s = u.select.drivePins ∧
      s.released.select.preChecked.ShedCalled ⟨s.callLevel, s.missing i⟩ u := by
  have called := State.callShed_calls (s := s.released.select.preChecked)
    s.released.select.callLevel (s.released.select.missing i) h.sharing
  rw [← h.sheds full high spacing] at called
  refine ⟨_, State.settleInto_decided rfl ?_ ?_, called⟩
  · rw [called.kept]
    rfl
  · rw [called.kept]
    rfl

/-! ## Base and the held claims total (R59, R60) -/

theorem State.base_eq (s : State) :
    s.base = ((List.range 48).map fun k => s.counted (s.entry (k + 1))).sum := by
  rw [State.base, s.entries_eq, List.map_map]
  rfl

theorem State.heldTotal_eq (s : State) :
    s.heldTotal = ((List.range 48).map fun k =>
      ((s.entry (k + 1)).claim.map ClaimPart.increment).getD 0).sum := by
  rw [State.heldTotal, s.entries_eq, List.map_map]
  rfl

/-- R5, R49, R59: the live loads of the SELF entry. -/
theorem State.reported_loads (s : State) :
    s.reported s.stagedLoad + s.reported s.fanLoad =
      if s.station.state = .shutdown then 0
      else s.stagedLoad + if s.mode.fan = true then s.cfg.fanLoad else 0 := by
  unfold State.reported State.fanLoad
  split <;> rfl

/-! ## The obligation -/

/-- Settles O36: the claim opened, the shed called, the denial, nothing to take, and the sums. -/
theorem preCheckDecides : Obligations.PreCheckDecides := by
  have taken {s : State} {i : Slot} (sharing : s.station.state = .sharing)
      (level : 1 ≤ s.mode.level) (presented : s.select.stage.presented = some i) :
      s.released.select.Asks i := ⟨presented, rfl, level, sharing⟩
  refine ⟨fun c s i hp wait timer sharing level presented fits => ?_,
    fun c s i hp wait timer sharing level presented full high spacing => ?_,
    fun c s i hp wait timer sharing level presented full barred => ?_,
    fun c s hp wait timer nothing => ?_, fun s => ⟨?_, ?_⟩⟩
  · obtain ⟨fault, frame⟩ := s.released_settled
    have claims := (taken sharing level presented).claims fits
    have kept := State.claimKept_settleInto s claims (State.openClaim_claimed _ i _)
    have waiting := kept.link.state (State.openClaim_waiting i _
      (show s.station.state.reports = true by rw [sharing]; rfl))
    have adm := kept.adm.1
    rw [State.openClaim_adm, State.intendedFor_eq] at adm
    refine ⟨_, State.waitExpiry_runs hp wait timer, ?_⟩
    rw [adm]
    exact ⟨rfl, rfl, rfl, rfl, rfl, rfl, kept.slot, waiting, fault, frame⟩
  · obtain ⟨fault, frame⟩ := s.released_settled
    obtain ⟨u, ends, kept, queued, held⟩ :=
      State.released_sheds (taken sharing level presented) full high spacing
    have adm : u.adm = { s.adm with
        state := .shedWait, holdoff := some 4000, shedSpacing := some 60000
        lastLevel := s.callLevel, headroom := s.headroom } := by
      rw [kept]
      rfl
    have noted : u.select.drivePins.adm.lastLevel = s.callLevel := congrArg Admission.lastLevel adm
    refine ⟨_, State.waitExpiry_runs hp wait timer, ?_⟩
    rw [ends] at fault frame ⊢
    rw [noted]
    exact ⟨adm, queued, held, by rw [kept]; rfl, by rw [kept]; rfl, fault, frame⟩
  · obtain ⟨fault, frame⟩ := s.released_settled
    have denies := (taken sharing level presented).denies full barred
    have ends := State.settleInto_decided (before := s) denies rfl rfl
    refine ⟨_, State.waitExpiry_runs hp wait timer, ?_⟩
    rw [ends] at fault frame ⊢
    exact ⟨rfl, rfl, rfl, fault, frame⟩
  · obtain ⟨fault, frame⟩ := s.released_settled
    have passes := State.takeRequest_passes (s := s.released.select) nothing
    have ends := State.settleInto_decided (before := s) passes rfl rfl
    refine ⟨_, State.waitExpiry_runs hp wait timer, ?_⟩
    rw [ends] at fault frame ⊢
    exact ⟨rfl, rfl, rfl, fault, frame⟩
  · rw [s.base_eq]
    refine congrArg List.sum (List.map_congr_left fun k _ => ?_)
    rw [State.counted]
    cases (s.entry (k + 1)).state with
    | self => exact s.reported_loads
    | empty => rfl
    | fresh | stale | lost => cases (s.entry (k + 1)).report <;> rfl
  · rw [s.heldTotal_eq]
    refine congrArg List.sum (List.map_congr_left fun k _ => ?_)
    cases (s.entry (k + 1)).claim <;> rfl

end Sys2Proof.Machine

/-! # What a start leaves at the end of its event (R119, R141 to R143, R145, R147)

The reports of a start stop other stages at most: the started one stays as it is, newest of the running
order, and a mode entry stands. -/

namespace Sys2Proof.Machine

/-! ## The end of an event that takes no request -/

theorem State.select_unselected {s : State} (h : ∀ i, s.selectable i = false) :
    s.select.stage.presented = none := by
  cases presented : s.select.stage.presented with
  | none => rfl
  | some i => exact absurd (s.select_presented.1 i presented) (by simp [h i])

/-- R141: with no request taken only the presented request and the queue follow. -/
theorem State.settleInto_passes {s : State} (before : State)
    (passes : s.select.takeRequest = s.select) :
    (s.settleInto before).adm = s.adm ∧ (s.settleInto before).mode = s.mode ∧
      (s.settleInto before).stage =
        { s.stage with presented := (s.settleInto before).stage.presented } := by
  have served : s.serveStarts = s.select.select := by
    rw [State.serveStarts, passes, State.stagesMoved_same rfl]
  rw [State.settleInto_adm, State.settleInto_mode, State.settleInto_stage, State.settleStarts,
    State.reportOffer, served]
  split
  · exact ⟨rfl, rfl, rfl⟩
  · rw [State.requestState_adm, State.requestState_mode, State.requestState_stage]
    exact ⟨rfl, rfl, rfl⟩

/-! ## What evaluations and normal stops leave -/

/-- What evaluations with their stops leave of `z`: the Admission Unit but for its denials, the
inter-stage timer, and what was asked of the queue. -/
structure State.EventKept (z t : State) : Prop where
  adm : z.adm.SameButDenials t.adm
  interStage : t.stage.interStage = z.stage.interStage
  link : z.link.Asked t.link

theorem State.EventKept.refl (z : State) : z.EventKept z := ⟨.refl _, rfl, .refl _⟩

theorem State.fanCommanded_interStage (s : State) (on : Bool) :
    (s.fanCommanded on).stage.interStage = s.stage.interStage := by
  unfold State.fanCommanded
  repeat' split
  all_goals rfl

theorem State.stopSlot_interStage (s : State) (i : Slot) :
    (s.stopSlot i).stage.interStage = s.stage.interStage := by
  unfold State.stopSlot
  split
  · cases i <;> rfl
  · rfl

theorem State.eventKept_keeps (z : State) : State.Keeps z.EventKept where
  mode _ _ h := ⟨h.adm, h.interStage, h.link⟩
  denials _ h := ⟨h.adm.reset, h.interStage, h.link⟩
  fan s on h :=
    ⟨by rw [s.fanCommanded_adm on]; exact h.adm,
      (s.fanCommanded_interStage on).trans h.interStage,
      by rw [s.fanCommanded_eq on]; exact h.link⟩
  request s h :=
    ⟨by rw [s.requestState_adm]; exact h.adm, by rw [s.requestState_stage]; exact h.interStage,
      h.link.trans (s.requestState_asked false).toAsked⟩
  stop s j h :=
    ⟨by rw [s.stopSlot_adm]; exact h.adm, (s.stopSlot_interStage j).trans h.interStage,
      by rw [s.stopSlot_link]; exact h.link⟩

/-- R147: no stop is due on a side whose count is the one last tested or not exceeded. -/
theorem State.serveWanted_within (fuel : Nat) {tested : ModeLogic} {s : State}
    (cool : s.mode.wantedCool = tested.wantedCool ∨ s.runningCount .cooling ≤ s.mode.wantedCool)
    (heat : s.mode.wantedHeat = tested.wantedHeat ∨ s.runningCount .heating ≤ s.mode.wantedHeat) :
    State.serveWanted fuel tested s = s := by
  have due {d : Side} (within : s.runningCount d ≤ s.wanted d) : s.stopsDue d = [] := by
    rw [State.stopsDue, Nat.sub_eq_zero_of_le within, List.take_zero]
  have none : s.stopsFor tested = [] := by
    rw [State.stopsFor, List.append_eq_nil_iff]
    exact ⟨ite_eq_left_iff.2 fun changed => due (cool.resolve_left changed),
      ite_eq_left_iff.2 fun changed => due (heat.resolve_left changed)⟩
  cases fuel with
  | zero => rfl
  | succ n => rw [State.serveWanted, none]

/-! ## A mode entry that stands (R119, R122) -/

/-- The unit mode is the one a grant on side `d` gives, with no yield hold. -/
structure ModeLogic.On (d : Side) (m : ModeLogic) : Prop where
  mode : m.mode = d.mode
  free : m.yieldHold = none

theorem ModeLogic.On.movedMode {d : Side} {t : State} (on : t.mode.On d) (before : State) :
    (t.movedMode before).On d := by
  unfold State.movedMode
  dsimp only
  repeat' split
  all_goals exact ⟨on.mode, on.free⟩

/-- R122: while a stage of its side runs, COOL and HEAT stand. -/
theorem ModeLogic.On.formUnitMode {d : Side} {m : ModeLogic} (on : m.On d) {s : State}
    (working : s.station.state.working = true) (runs : s.runningCount d ≠ 0) :
    s.formUnitMode m = m := by
  rw [State.formUnitMode, if_pos working, on.mode]
  cases d with
  | cooling => exact if_neg (by simp [runs])
  | heating => exact if_neg (by simp [runs])

theorem ModeLogic.On.formMode {d : Side} {s : State} (on : s.mode.On d)
    (working : s.station.state.working = true) (runs : s.runningCount d ≠ 0) :
    (s.formMode .plain).On d := by
  have formed : s.formed.On d := ⟨on.mode, on.free⟩
  have held : s.yieldEnd s.formed = s.formed := State.yieldEnd_held (by rw [formed.free]; nofun)
  have aimed : s.aimed.On d := by
    rw [State.aimed, held, formed.formUnitMode working runs]
    exact ⟨formed.mode, formed.free⟩
  have fan := s.formFan_eq .plain s.aimed
  rw [State.formMode_eq (State.working_not_config working)]
  refine ⟨?_, aimed.free⟩
  have mode : (s.formFan .plain s.aimed).mode = d.mode := by rw [fan]; exact aimed.mode
  show (s.formFan .plain s.aimed).name.mode = d.mode
  rw [ModeLogic.name, mode]
  cases d <;> exact mode

/-! ## A stage started (R143) -/

/-- Slot `i` runs as the newest stage, its min-run not over, in a station that works. -/
structure State.JustStarted (z : State) (i : Slot) : Prop where
  working : z.station.state.working = true
  running : z.isRunning i = true
  barred : z.stageState i ≠ .runFree
  newest : z.stage.order.getLast? = some i

/-- What the reports of a start leave of it. -/
structure State.Granted (z : State) (i : Slot) (t : State) : Prop where
  frame : z.stageFrame t
  kept : z.EventKept t
  slot : t.slot i = z.slot i
  newest : t.stage.order.getLast? = some i
  mode : z.mode.On (sideOf i) → t.mode.On (sideOf i)

theorem State.runningCount_ne_zero {s : State} {i : Slot} (running : s.isRunning i = true) :
    s.runningCount (sideOf i) ≠ 0 := by
  have mem : i ∈ (sideOf i).slots.filter s.isRunning :=
    List.mem_filter.2 ⟨by cases i <;> decide, running⟩
  exact (List.length_pos_of_mem mem).ne'

namespace State.Granted

variable {z t : State} {i : Slot}

theorem refl (e : z.JustStarted i) : z.Granted i z :=
  ⟨State.stageFrame_refl z, .refl z, rfl, e.newest, id⟩

/-- What moves no slot. -/
theorem unmoved (k : z.Granted i t) {u : State} (frame : t.stageFrame u) (kept : z.EventKept u)
    (slots : u.stage.slots = t.stage.slots) (order : u.stage.order = t.stage.order)
    (mode : t.mode.On (sideOf i) → u.mode.On (sideOf i)) : z.Granted i u where
  frame := State.stageFrame_trans k.frame frame
  kept := kept
  slot := (State.slot_congr slots i).trans k.slot
  newest := by rw [order]; exact k.newest
  mode on := mode (k.mode on)

theorem request (k : z.Granted i t) : z.Granted i t.requestState :=
  k.unmoved (t.requestState_frame false) (z.eventKept_keeps.request t k.kept) (by simp) (by simp)
    fun on => by rw [State.requestState_mode]; exact on

theorem evaluateOnce (e : z.JustStarted i) (k : z.Granted i t) :
    z.Granted i (t.evaluateOnce .plain) := by
  obtain ⟨slots, order⟩ := t.evaluateOnce_stage .plain
  refine k.unmoved (t.evaluateOnce_frame .plain)
    (State.evaluateOnce_keeps z.eventKept_keeps t .plain k.kept) slots order fun on => ?_
  rw [State.evaluateOnce_mode]
  refine on.formMode ?_ (State.runningCount_ne_zero ?_)
  · rw [k.frame.station_eq]
    exact e.working
  · rw [State.isRunning_of_slot k.slot]
    exact e.running

theorem reportStages (k : z.Granted i t) (before : State) : z.Granted i (t.reportStages before) := by
  have moved : z.Granted i { t with mode := t.movedMode before } :=
    k.unmoved ⟨rfl, rfl⟩ (z.eventKept_keeps.mode t _ k.kept) rfl rfl fun on => on.movedMode before
  rw [State.reportStages_eq]
  split
  · exact moved
  · exact moved.request

theorem reportMove (e : z.JustStarted i) (k : z.Granted i t) (before : State) :
    z.Granted i (t.reportMove before) := by
  unfold State.reportMove
  split
  · exact k
  · exact evaluateOnce e (k.reportStages before)

/-- R149: a stop passes over every other stage. -/
theorem stopSlot (k : z.Granted i t) {j : Slot} (other : i ≠ j) : z.Granted i (t.stopSlot j) where
  frame := State.stageFrame_trans k.frame (t.stopSlot_frame j)
  kept := z.eventKept_keeps.stop t j k.kept
  slot := by
    rw [State.stopSlot_slot, if_neg fun same => other same.1]
    exact k.slot
  newest := by
    rw [State.stopSlot_order]
    split
    · obtain ⟨rest, order⟩ := List.getLast?_eq_some_iff.1 k.newest
      rw [order, List.filter_append, List.filter_cons_of_pos (by simpa using other)]
      exact List.getLast?_concat
    · exact k.newest
  mode on := by
    rw [State.stopSlot_mode]
    exact k.mode on

theorem stops (e : z.JustStarted i) (l : List Slot) (others : i ∉ l) (k : z.Granted i t) :
    z.Granted i (t.moveEach State.stopSlot l) := by
  induction l generalizing t with
  | nil => exact k
  | cons j rest ih =>
    obtain ⟨other, others⟩ := not_or.1 (List.mem_cons.not.1 others)
    rw [State.moveEach_cons]
    exact ih others (reportMove e (k.stopSlot other) t)

theorem not_due (e : z.JustStarted i) (k : z.Granted i t) (tested : ModeLogic) :
    i ∉ t.stopsFor tested := by
  have barred : t.stageState i ≠ .runFree := by
    rw [State.stageState, k.slot]
    exact e.barred
  have due (d : Side) : i ∉ t.stopsDue d := fun h => by
    have free := (List.mem_filter.1 (List.mem_of_mem_take h)).2
    simp [barred] at free
  rw [State.stopsFor, List.mem_append, not_or]
  exact ⟨by split <;> simp [due], by split <;> simp [due]⟩

/-- R147: normal stops take RUN_FREE stages alone. -/
theorem serveWanted (e : z.JustStarted i) (fuel : Nat) :
    ∀ (tested : ModeLogic) (t : State), z.Granted i t →
      z.Granted i (State.serveWanted fuel tested t) := by
  induction fuel with
  | zero => exact fun _ _ k => k
  | succ n ih =>
    intro tested t k
    unfold State.serveWanted
    split
    · exact k
    · exact ih _ _ (stops e _ (not_due e k tested) k)

theorem stagesMoved (e : z.JustStarted i) (k : z.Granted i t) (before : State) :
    z.Granted i (t.stagesMoved before) :=
  serveWanted e 4 _ _ (reportMove e k before)

theorem selected (k : z.Granted i t) : z.Granted i t.select :=
  k.unmoved t.select_frame ⟨k.kept.adm, k.kept.interStage, k.kept.link⟩ rfl rfl id

theorem driven (k : z.Granted i t) : z.Granted i t.drivePins :=
  k.unmoved t.drivePins_frame ⟨k.kept.adm, k.kept.interStage, k.kept.link⟩ rfl rfl id

theorem reportOffer (k : z.Granted i t) (before : State) : z.Granted i (t.reportOffer before) := by
  rw [State.reportOffer]
  split
  · exact k
  · exact k.request

/-- R141, R142: the end of the event, while the inter-stage timer runs. -/
theorem settleInto (k : z.Granted i t) (interStage : z.stage.interStage.isSome = true)
    (before : State) : z.Granted i (t.settleInto before) := by
  have unselected (j : Slot) : t.selectable j = false := by
    rw [State.selectable, k.kept.interStage]
    simp [Option.isNone_eq_false_iff.2 interStage]
  have passes := State.takeRequest_passes (s := t.select) (.inl (State.select_unselected unselected))
  rw [State.settleInto, State.settleStarts, State.serveStarts, passes, State.stagesMoved_same rfl]
  exact (k.selected.selected.reportOffer before).driven

end State.Granted

/-! ## A grant (R74, R83, R119, R143) -/

section
variable {x : State} {i : Slot} {m : Intended}

theorem State.startSlot_interStage (s : State) (i : Slot) :
    (s.startSlot i).stage.interStage = some interStageTime := by
  have freeze (t : State) (n : Circuit) : (t.testFreeze n).stage.interStage = t.stage.interStage := by
    unfold State.testFreeze
    repeat' split
    all_goals cases n <;> rfl
  have prove (t : State) (j : Slot) :
      (t.testHeatProve j).stage.interStage = t.stage.interStage := by
    unfold State.testHeatProve
    split <;> rfl
  cases i with
  | c1 | c2 => exact freeze _ _
  | h1 | h2 => exact prove _ _

/-- R143, R145: the stage a grant leaves. -/
def State.startedStage (s : State) (i : Slot) : Stage :=
  if sideOf i = .heating ∧ s.heatProven = true then
    { s.slot i with
      state := .runLock, timer := some (ofSeconds (s.slotConfig i).minRun), prove := none }
  else
    { s.slot i with
      state := .proving, timer := some (ofSeconds (s.slotConfig i).minRun), prove := some proveTime }

theorem State.grant_slot (x : State) (i : Slot) (m : Intended) :
    (x.grant i m).slot i = x.startedStage i := by
  have started := State.startSlot_slot
    { x with adm.denials := 0, stage.presented := none } i i
  rw [if_pos rfl] at started
  rw [State.grant, State.slot, State.grantMode_stage]
  exact started

theorem State.startedStage_state (s : State) (i : Slot) :
    (s.startedStage i).state = .runLock ∨ (s.startedStage i).state = .proving := by
  unfold State.startedStage
  split
  · exact .inl rfl
  · exact .inr rfl

theorem State.grant_interStage (x : State) (i : Slot) (m : Intended) :
    (x.grant i m).stage.interStage = some interStageTime := by
  rw [State.grant, State.grantMode_stage, State.startSlot_interStage]

theorem State.grant_started (i : Slot) (m : Intended) (working : x.station.state.working = true) :
    (x.grant i m).JustStarted i where
  working := by rw [(x.grant_frame i m).station_eq]; exact working
  running := by
    rw [State.isRunning_of_slot (x.grant_slot i m)]
    rcases x.startedStage_state i with state | state <;> rw [state] <;> rfl
  barred := by
    rw [State.stageState, x.grant_slot]
    rcases x.startedStage_state i with state | state <;> rw [state] <;> nofun
  newest := by
    rw [State.grant, State.grantMode_stage, State.startSlot_order]
    exact List.getLast?_concat

/-- R77: the intended mode of a mode entry on a side. -/
def Side.intended : Side → Intended
  | .cooling => .cool
  | .heating => .heat

/-- R119: a mode entry sets the mode. -/
theorem State.grant_on (intended : m = (sideOf i).intended) (free : x.mode.yieldHold = none) :
    (x.grant i m).mode.On (sideOf i) := by
  rw [State.grant]
  have started := State.startSlot_eq { x with adm.denials := 0, stage.presented := none } i
  generalize State.startSlot _ i = y at *
  have free : y.mode.yieldHold = none := by rw [started]; exact free
  have set (d : Side) : (if y.mode.mode = d.mode then y
      else State.requestState { y with mode.mode := d.mode, mode.fullOpen := .stopped }).mode.On d := by
    split
    · rename_i same
      exact ⟨same, free⟩
    · rw [State.requestState_mode]
      exact ⟨rfl, free⟩
  rw [intended]
  cases sideOf i with
  | cooling => exact set .cooling
  | heating => exact set .heating

theorem State.heatProven_iff (s : State) :
    s.heatProven = true ↔ s.accepted .heatProve = .active ∨ s.accepted .heatProve = .unfitted := by
  simp [State.heatProven]

/-- R143, R145: what a grant started, as the event ends. -/
theorem State.Granted.startTaken {s t : State} (k : (x.grant i m).Granted i t)
    (frame : s.stageFrame x) (slots : x.stage.slots = s.stage.slots)
    (pin : t.pins.stages.get i = t.isRunning i) (working : x.station.state.working = true) :
    s.startTaken t i := by
  have slot : t.slot i = s.startedStage i := by
    rw [k.slot, State.grant_slot, State.startedStage, State.startedStage, State.heatProven,
      State.accepted, State.input, frame.inputs_eq, State.slot_congr slots, State.slotConfig,
      State.cfg_congr frame.config_eq]
    rfl
  have running : t.isRunning i = true :=
    (State.isRunning_of_slot k.slot).trans (State.grant_started i m working).running
  simp only [State.startTaken, ← State.heatProven_iff]
  rw [State.stageState, slot, pin, running, k.kept.interStage, State.grant_interStage]
  unfold State.startedStage
  split
  · exact ⟨rfl, rfl, rfl, k.newest, rfl, rfl, rfl⟩
  · exact ⟨rfl, rfl, rfl, k.newest, rfl, rfl, rfl⟩

end

end Sys2Proof.Machine

/-! # The claim granted at the end of its settle (R69, R80 to R83, R119, R143) -/

namespace Sys2Proof.Machine

/-! ## The end of the settle -/

theorem State.settleExpiry_runs {s : State} {c : OpenClaim} (hp : s.powered = true)
    (claim : s.adm.claim = some c) (settling : s.adm.state = .settling)
    (timer : s.adm.settle.isSome = true) :
    exec .settleExpiry s = .next ((s.settleClaim c).settleInto s) := by
  change execSettleExpiry s = _
  rw [execSettleExpiry, claim]
  exact State.event_runs s _ _ hp (by rw [timer, settling]; rfl)

/-- R69, R80: the claim closed and its slot back in READY. -/
def State.relinquished (s : State) (i : Slot) : State := s.closeClaim.readySlot i

theorem State.closeClaim_fault (s : State) : s.closeClaim.fault = s.fault := by
  rw [State.closeClaim, State.requestState_fault]

theorem State.settleClaim_fault (s : State) (c : OpenClaim) : (s.settleClaim c).fault = s.fault := by
  unfold State.settleClaim
  split
  · exact (State.stagesMoved_fault _ s).trans s.closeClaim_fault
  · split
    · exact (State.stagesMoved_fault _ s).trans
        ((State.blind_fault s.fault).grant _ _ _ s.closeClaim_fault)
    · exact (State.stagesMoved_fault _ s).trans s.closeClaim_fault

theorem State.settleClaim_settled (s : State) (c : OpenClaim) :
    ((s.settleClaim c).settleInto s).fault = s.fault ∧
      s.stageFrame ((s.settleClaim c).settleInto s) :=
  ⟨(State.settleInto_fault _ s).trans (s.settleClaim_fault c),
    State.stageFrame_trans (s.settleClaim_frame c) (State.settleInto_frame _ s)⟩

theorem State.closeClaim_stage (s : State) : s.closeClaim.stage = s.stage := by
  rw [State.closeClaim, State.requestState_stage]

theorem State.closeClaim_mode (s : State) : s.closeClaim.mode = s.mode := by
  rw [State.closeClaim, State.requestState_mode]

/-- R69: a closed claim leaves a STATE waiting. -/
theorem State.closeClaim_waiting {s : State} (sharing : s.station.state = .sharing) :
    s.closeClaim.link.stateSlot.waiting = true :=
  State.requestState_waiting false (show s.station.state.reports = true by rw [sharing]; rfl)

theorem State.closeClaim_working {s : State} (sharing : s.station.state = .sharing) :
    s.closeClaim.station.state.working = true := by
  rw [s.closeClaim_frame.station_eq, sharing]
  rfl

section
variable {s : State} {c : OpenClaim}

theorem State.claimFits_iff : s.claimFits c = true ↔
    s.base + s.aheadTotal c.level + c.increment ≤ s.table.ceiling ∧ s.modeConflict c = false := by
  simp [State.claimFits]

theorem State.settleClaim_grants (wanted : s.stillWanted c.slot = true)
    (fits : s.claimFits c = true) :
    s.settleClaim c = (s.closeClaim.grant c.slot c.intended).stagesMoved s := by
  simp [State.settleClaim, wanted, fits]

theorem State.settleClaim_denies (wanted : s.stillWanted c.slot = true)
    (unfit : s.claimFits c = false) :
    s.settleClaim c = ((s.relinquished c.slot).deny c.level).stagesMoved s := by
  simp [State.settleClaim, wanted, unfit, State.relinquished]

theorem State.settleClaim_withdraws (unwanted : s.stillWanted c.slot = false) :
    s.settleClaim c = (s.relinquished c.slot).stagesMoved s := by
  simp [State.settleClaim, unwanted, State.relinquished]

/-- R83: the grant, to the end of its event. -/
theorem State.settleClaim_granted (sharing : s.station.state = .sharing)
    (wanted : s.stillWanted c.slot = true) (fits : s.claimFits c = true) :
    (s.closeClaim.grant c.slot c.intended).Granted c.slot ((s.settleClaim c).settleInto s) := by
  have started := State.grant_started c.slot c.intended (State.closeClaim_working sharing)
  rw [State.settleClaim_grants wanted fits]
  exact ((State.Granted.refl started).stagesMoved started s).settleInto
    (by rw [State.grant_interStage]; rfl) s

end

/-! ## Ahead and mode conflict spelled out (R81, R82) -/

theorem State.numbered_eq (s : State) :
    s.numbered = (List.range 48).map fun k => (k + 1, s.entry (k + 1)) := by
  refine List.ext_getElem (by simp [State.numbered]) fun k _ _ => ?_
  simp [State.numbered, s.entries_eq]

theorem ClaimPart.ahead_iff (p : ClaimPart) (n level own : Nat) :
    p.ahead n level own = true ↔ level < p.level ∨ (p.level = level ∧ n < own) := by
  simp [ClaimPart.ahead]

theorem EntryState.heard_iff (e : EntryState) : e.heard = true ↔ e = .fresh ∨ e = .stale := by
  cases e <;> simp [EntryState.heard]

/-- R82: what of an entry conflicts with the own claim. -/
theorem State.entryConflicts_iff (s : State) (c : OpenClaim) (n : Nat) (e : Entry)
    (entry : c.intended ≠ .none) :
    s.entryConflicts c n e = true ↔
      (e.state = .fresh ∨ e.state = .stale) ∧ e.mark = true ∧
        ((∃ r ∈ e.report, (c.intended = .cool ∧ r.unitMode = 4) ∨
            (c.intended = .heat ∧ (r.unitMode = 3 ∨ r.unitMode = 2))) ∨
          ∃ p ∈ e.claim, (c.level < p.level ∨ (p.level = c.level ∧ n < s.number)) ∧
            ((c.intended = .cool ∧ p.intended = 4) ∨ (c.intended = .heat ∧ p.intended = 3))) := by
  rw [State.entryConflicts, Bool.and_eq_true, Bool.and_eq_true, EntryState.heard_iff, and_assoc,
    Bool.or_eq_true]
  refine and_congr_right fun _ => and_congr_right fun _ => or_congr ?_ ?_
  · cases hi : c.intended with
    | none => exact absurd hi entry
    | cool | heat => cases e.report <;> simp
  · cases e.claim with
    | none => simp
    | some p =>
      cases hi : c.intended with
      | none => exact absurd hi entry
      | cool | heat => simp [conflictIntended, ClaimPart.ahead_iff]

theorem State.modeConflict_iff (s : State) (c : OpenClaim) :
    s.modeConflict c = true ↔ c.intended ≠ .none ∧ s.mode.level < 7 ∧
      ∃ k ∈ List.range 48, s.entryConflicts c (k + 1) (s.entry (k + 1)) = true := by
  simp only [State.modeConflict, s.numbered_eq, Bool.and_eq_true, bne_iff_ne, decide_eq_true_eq,
    List.any_map, List.any_eq_true, Function.comp_apply, and_assoc]

/-! ## The obligation -/

/-- Settles O34: the grant to the end of its event, and the two conditions spelled out. -/
theorem settleGrantsAClaimThatFits : Obligations.SettleGrantsAClaimThatFits := by
  refine ⟨fun s c hp claim settling timer sharing wanted room clear => ?_, fun s level => ?_,
    fun s c => ?_⟩
  · have granted :=
      State.settleClaim_granted sharing wanted (State.claimFits_iff.2 ⟨room, clear⟩)
    obtain ⟨fault, frame⟩ := s.settleClaim_settled c
    have pin := State.settleInto_stagePin (s.settleClaim c) s c.slot
    refine ⟨_, State.settleExpiry_runs hp claim settling timer, ?_⟩
    generalize (s.settleClaim c).settleInto s = t at *
    have adm : t.adm = { s.adm with state := .idle, claim := none, settle := none, denials := 0 } := by
      obtain ⟨kept, denials⟩ := granted.kept.adm
      rw [State.grant_adm, State.closeClaim_adm] at kept denials
      rw [kept, denials.elim id id]
    have started := granted.startTaken s.closeClaim_frame (by rw [s.closeClaim_stage]) pin
      (State.closeClaim_working sharing)
    have asked := (State.blind_asked s.closeClaim.link).grant s.closeClaim c.slot c.intended (.refl _)
    have waiting := granted.kept.link.state (asked.state (State.closeClaim_waiting sharing))
    have on {d : Side} (side : sideOf c.slot = d) (intended : c.intended = d.intended)
        (free : s.mode.yieldHold = none) : t.mode.mode = d.mode := by
      rw [← side] at intended ⊢
      exact (granted.mode (State.grant_on intended (by rw [s.closeClaim_mode]; exact free))).mode
    exact ⟨started, waiting, adm, fun intended side => on side intended,
      fun intended side => on side intended, fault, frame⟩
  · rw [State.aheadTotal, s.numbered_eq, List.map_map]
    refine congrArg List.sum (List.map_congr_left fun k _ => ?_)
    rw [Function.comp_apply]
    cases (s.entry (k + 1)).claim with
    | none => rfl
    | some p => exact if_congr (p.ahead_iff (k + 1) level s.number) rfl rfl
  · rw [s.modeConflict_iff]
    refine and_congr_right fun entry => and_congr_right fun _ => exists_congr fun k =>
      and_congr_right fun _ => s.entryConflicts_iff c _ _ entry

end Sys2Proof.Machine

/-! # The request decided against a local limit (R73 to R75, R79, R85) -/

namespace Sys2Proof.Machine

/-- R73 to R75: the load counted and the limit, by the station state that decides alone. -/
def State.DecidesBy (s : State) (counted limit : Nat) : Prop :=
  (s.station.state = .isolated ∧ counted = s.stagedLoad ∧ limit = s.cfg.cap) ∨
    (s.station.state = .solo ∧ counted = s.stagedLoad + s.fanLoad ∧ limit = s.cfg.ceiling)

/-- R70, R73: an IDLE unit that decides alone takes the request presented for slot `i`. -/
structure State.AsksAlone (s : State) (i : Slot) (counted limit : Nat) : Prop where
  presented : s.stage.presented = some i
  idle : s.adm.state = .idle
  level : 1 ≤ s.mode.level
  alone : s.DecidesBy counted limit

/-- R74, R75: the state in which the local decision is made: the claim level and the headroom noted. -/
def State.weighed (s : State) (counted limit : Nat) : State :=
  s.judged s.callLevel ((limit : Int) - counted)

section
variable {s : State} {i : Slot} {counted limit : Nat}

theorem State.DecidesBy.working (h : s.DecidesBy counted limit) :
    s.station.state.working = true := by
  rcases h with ⟨state, _⟩ | ⟨state, _⟩ <;> rw [state] <;> rfl

theorem State.DecidesBy.apart (h : s.DecidesBy counted limit) : s.station.state ≠ .sharing := by
  rcases h with ⟨state, _⟩ | ⟨state, _⟩ <;> rw [state] <;> nofun

theorem State.AsksAlone.decides (h : s.AsksAlone i counted limit) :
    s.takeRequest = ({ s with adm.lastLevel := s.callLevel } : State).decideLocal i s.callLevel
      counted limit := by
  rw [State.takeRequest, h.presented]
  dsimp only
  rw [if_pos ⟨h.idle, h.level⟩]
  rcases h.alone with ⟨state, rfl, rfl⟩ | ⟨state, rfl, rfl⟩ <;> rw [state] <;> rfl

/-- R74: what fits is granted. -/
theorem State.AsksAlone.grants (h : s.AsksAlone i counted limit)
    (fits : counted + s.increment i ≤ limit) :
    s.takeRequest = (s.weighed counted limit).grant i (s.intendedFor i) :=
  h.decides.trans (if_pos fits)

/-- R74, R79: what does not is denied. -/
theorem State.AsksAlone.denies (h : s.AsksAlone i counted limit)
    (full : limit < counted + s.increment i) :
    s.takeRequest = (s.weighed counted limit).deny s.callLevel :=
  h.decides.trans (if_neg (Nat.not_le.2 full))

/-- R79: a denial moves neither the mode nor the queue nor a stage. -/
theorem State.deny_moves_nothing (s : State) (level : Nat) :
    (s.deny level).select.drivePins.mode = s.mode ∧ (s.deny level).select.drivePins.link = s.link ∧
      (s.deny level).select.drivePins.stage.slots = s.stage.slots := ⟨rfl, rfl, rfl⟩

/-- A request granted in the end of an event, at its end. -/
theorem State.JustStarted.settleInto {u : State} (e : u.JustStarted i)
    (taken : s.select.takeRequest = u) (before : State) : u.Granted i (s.settleInto before) := by
  rw [State.settleInto, State.settleStarts, State.serveStarts, taken]
  exact ((((State.Granted.refl e).stagesMoved e _).selected).reportOffer before).driven

end

/-- Settles O37: the request taken at the end of the holdoff, granted or denied. -/
theorem localDecisionKeepsTheLimit : Obligations.LocalDecisionKeepsTheLimit := by
  have asks {s : State} {i : Slot} {counted limit : Nat} (alone : s.DecidesBy counted limit)
      (level : 1 ≤ s.mode.level) (presented : s.select.stage.presented = some i) :
      s.released.select.AsksAlone i counted limit := ⟨presented, rfl, level, alone⟩
  refine ⟨fun s i counted limit hp state timer alone level presented fits => ?_,
    fun s i counted limit hp state timer alone level presented full => ?_⟩
  · have working : s.station.state.working = true := State.DecidesBy.working alone
    have started := State.grant_started (x := s.released.select.weighed counted limit) i
      (s.released.select.intendedFor i) working
    have granted := started.settleInto ((asks alone level presented).grants fits) s
    obtain ⟨fault, frame⟩ := s.released_settled
    have pin := State.settleInto_stagePin s.released s i
    refine ⟨_, State.waitExpiry_runs hp (.inl ⟨rfl, state⟩) timer, ?_⟩
    generalize s.released.settleInto s = t at *
    obtain ⟨kept, denials⟩ := granted.kept.adm
    rw [State.grant_adm] at kept denials
    rw [kept]
    exact ⟨granted.startTaken ⟨rfl, rfl⟩ rfl pin working, rfl, rfl, denials.elim id id, rfl, rfl,
      fault, frame⟩
  · obtain ⟨fault, frame⟩ := s.released_settled
    have denies := (asks alone level presented).denies full
    have ends := State.settleInto_decided (before := s) denies rfl <| by
      have apart : s.station.state ≠ .sharing := State.DecidesBy.apart alone
      rw [State.offer_elsewhere apart]
      exact State.offer_elsewhere apart
    have adm : (s.released.settleInto s).adm = { s.adm with
        state := .holdoff, holdoff := some (holdoffTime s.callLevel s.number)
        lastLevel := s.callLevel, denials := min 255 (s.adm.denials + 1)
        headroom := (limit : Int) - counted } := by
      rw [ends]
      rfl
    obtain ⟨mode, link, slots⟩ :=
      (s.released.select.weighed counted limit).deny_moves_nothing s.callLevel
    refine ⟨_, State.waitExpiry_runs hp (.inl ⟨rfl, state⟩) timer, ?_⟩
    rw [adm]
    rw [ends] at fault frame ⊢
    exact ⟨rfl, rfl, rfl, rfl, slots, mode, link, fault, frame⟩

end Sys2Proof.Machine

/-! # The claim denied or withdrawn (R72, R80, R84, R85) -/

namespace Sys2Proof.Machine

/-! ## The slot back in READY -/

/-- What the reports of a claim closed without a start leave of `z`: slot `i` READY. -/
structure State.Freed (z : State) (i : Slot) (t : State) : Prop where
  kept : z.EventKept t
  slot : t.stageState i = .ready

theorem State.Freed.of_slots {z t u : State} {i : Slot} (k : z.Freed i t) (kept : z.EventKept u)
    (slots : u.stage.slots = t.stage.slots) : z.Freed i u :=
  ⟨kept, (State.stageState_congr slots i).trans k.slot⟩

theorem State.freed_keeps (z : State) (i : Slot) : State.Keeps (z.Freed i) where
  mode s m k := k.of_slots (z.eventKept_keeps.mode s m k.kept) rfl
  denials s k := k.of_slots (z.eventKept_keeps.denials s k.kept) rfl
  fan s on k := k.of_slots (z.eventKept_keeps.fan s on k.kept) (s.fanCommanded_stage on).1
  request s k := k.of_slots (z.eventKept_keeps.request s k.kept) (by rw [s.requestState_stage])
  stop s j k := by
    refine ⟨z.eventKept_keeps.stop s j k.kept, ?_⟩
    rw [State.stageState, State.stopSlot_slot, if_neg]
    · exact k.slot
    · rintro ⟨rfl, running⟩
      rw [State.isRunning, k.slot] at running
      cases running

theorem State.Freed.settleInto {z t : State} {i : Slot} (k : z.Freed i t) (before : State)
    (passes : t.select.takeRequest = t.select) : z.Freed i (t.settleInto before) := by
  obtain ⟨adm, _, stage⟩ := State.settleInto_passes before passes
  exact k.of_slots ⟨by rw [adm]; exact k.kept.adm, by rw [stage]; exact k.kept.interStage,
    k.kept.link.trans (t.settleInto_asked before)⟩ (by rw [stage])

section
variable {s z : State} {i : Slot}

theorem State.relinquished_frame (s : State) (i : Slot) : s.stageFrame (s.relinquished i) :=
  State.stageFrame_trans s.closeClaim_frame (State.setSlot_frame _ i _)

theorem State.relinquished_adm (s : State) (i : Slot) :
    (s.relinquished i).adm = { s.adm with claim := none, settle := none, state := .idle } :=
  s.closeClaim_adm

theorem State.relinquished_slots (s : State) (i : Slot) :
    (s.relinquished i).stage.slots = (s.setSlot i { s.slot i with state := .ready }).stage.slots := by
  simp only [State.relinquished, State.readySlot, State.setSlot, State.slot, State.closeClaim_stage]

theorem State.relinquished_ready (s : State) (i : Slot) : (s.relinquished i).stageState i = .ready := by
  rw [State.stageState_congr (s.relinquished_slots i), State.stageState, State.slot_setSlot_self]

theorem State.relinquished_isRunning (claimed : s.stageState i = .claimed) (j : Slot) :
    (s.relinquished i).isRunning j = s.isRunning j := by
  rw [State.isRunning_congr (s.relinquished_slots i), State.isRunning_setSlot]
  split
  · rename_i same
    rw [same, State.isRunning, claimed]
    rfl
  · rfl

/-- R137: a slot back in READY is reported with one evaluation, and the normal stops it brings. -/
theorem State.stagesMoved_ready (claimed : s.stageState i = .claimed)
    (ready : z.stageState i = .ready) :
    z.stagesMoved s = State.serveWanted 4 z.mode ((z.reportStages s).evaluateOnce .plain) := by
  rw [State.stagesMoved, State.reportMove, if_neg]
  intro same
  rw [← State.stageStates_get, same, State.stageStates_get, claimed] at ready
  cases ready

theorem State.stagesMoved_freed (ready : z.stageState i = .ready) (before : State) :
    z.Freed i (z.stagesMoved before) :=
  State.stagesMoved_keeps (z.freed_keeps i) z before ⟨.refl z, ready⟩

/-! ## A withdrawal after which nothing is wanted -/

/-- R113: at a demand level of 0 every evaluation of the event forms that level. -/
theorem State.level_forms (operates : s.station.state ≠ .config)
    (level : (s.formDemand s.mode).level = 0) : s.Forms (fun m => m.level = 0) where
  form t frame := by
    have formed : t.formed = s.formedOf t.mode := frame.formedOf t.mode
    rw [State.formMode_eq (by rw [frame.station_eq]; exact operates)]
    exact t.aimed_sameCalls.level.trans ((congrArg ModeLogic.level formed).trans level)
  changeover _ _ h := h
  grant _ _ h := h

/-- R72: at a demand level of 0 the withdrawal leaves that level, at which nothing is taken. -/
theorem State.relinquished_level (claimed : s.stageState i = .claimed)
    (operates : s.station.state ≠ .config) (level : (s.formDemand s.mode).level = 0) :
    ((s.relinquished i).stagesMoved s).mode.level = 0 := by
  have forms := State.level_forms operates level
  have frame : s.stageFrame ((s.relinquished i).reportStages s) :=
    State.stageFrame_trans (s.relinquished_frame i) (State.reportStages_frame _ s)
  rw [State.stagesMoved_ready claimed (s.relinquished_ready i)]
  exact (forms.serveWanted 4 _ _
    ⟨State.stageFrame_trans frame (State.evaluateOnce_frame _ .plain),
      forms.evaluateOnce frame⟩).2

/-- R116: what follows the counts in an evaluation leaves them. -/
theorem State.formMode_wanted (operates : s.station.state ≠ .config) :
    (s.formMode .plain).wantedCool = s.aimed.wantedCool ∧
      (s.formMode .plain).wantedHeat = s.aimed.wantedHeat := by
  rw [State.formMode_eq operates]
  exact ⟨rfl, rfl⟩

/-- R116: two states that the counts cannot tell apart form the same ones from one mode. -/
theorem State.SameAim.wanted {t : State} (k : s.SameAim t) (mode : t.mode = s.mode)
    (operates : s.station.state ≠ .config) :
    (t.formMode .plain).wantedCool = (s.formMode .plain).wantedCool ∧
      (t.formMode .plain).wantedHeat = (s.formMode .plain).wantedHeat := by
  obtain ⟨coolT, heatT⟩ := State.formMode_wanted (mt k.inConfig.1 operates)
  obtain ⟨coolS, heatS⟩ := State.formMode_wanted operates
  have aimed : t.aimed = s.aimed := by rw [t.aimed_eq, mode, k.aimOf, s.aimed_eq]
  rw [coolT, heatT, coolS, heatS, aimed]
  exact ⟨rfl, rfl⟩

/-- R137: the slot's return changes nothing that the counts depend on. -/
theorem State.relinquished_reported (claimed : s.stageState i = .claimed) :
    s.SameAim ((s.relinquished i).reportStages s) ∧
      ((s.relinquished i).reportStages s).mode = s.mode := by
  have frame := State.stageFrame_trans (s.relinquished_frame i) (State.reportStages_frame _ s)
  have runs := State.relinquished_isRunning claimed
  have counts (j : Slot) : ((s.relinquished i).reportStages s).isRunning j = s.isRunning j :=
    (State.isRunning_congr (by rw [State.reportStages_stage]) j).trans (runs j)
  refine ⟨?_, ?_⟩
  · exact
      { config := frame.config_eq, table := frame.table_eq, scan := frame.scan_eq
        inputs := frame.inputs_eq
        working := by rw [frame.station_eq]
        inConfig := by rw [frame.station_eq]
        counts := State.runningCount_congr counts }
  · rw [State.reportStages_eq, State.movedMode_same runs]
    split
    · exact s.closeClaim_mode
    · rw [State.requestState_mode]
      exact s.closeClaim_mode

/-- R116, R147: the stages a side runs, or as few as its stored count already was. -/
def State.WantsNoMore (s : State) (d : Side) (formed stored : Nat) : Prop :=
  formed = s.runningCount d ∨ (formed ≤ s.runningCount d ∧ formed = stored)

/-- R147: such counts stop no stage, and no further one is wanted. -/
theorem State.WantsNoMore.within {d : Side} {formed stored : Nat}
    (h : s.WantsNoMore d formed stored) :
    (formed = stored ∨ s.runningCount d ≤ formed) ∧ formed ≤ s.runningCount d := by
  rcases h with same | ⟨fewer, same⟩
  · exact ⟨.inr same.ge, same.le⟩
  · exact ⟨.inl same, fewer⟩

/-- R80: the withdrawal whose evaluation wants nothing more. -/
theorem State.relinquished_unselected (claimed : s.stageState i = .claimed)
    (operates : s.station.state ≠ .config)
    (cool : s.WantsNoMore .cooling (s.formMode .plain).wantedCool s.mode.wantedCool)
    (heat : s.WantsNoMore .heating (s.formMode .plain).wantedHeat s.mode.wantedHeat) (j : Slot) :
    ((s.relinquished i).stagesMoved s).selectable j = false := by
  obtain ⟨aim, mode⟩ := State.relinquished_reported claimed
  obtain ⟨wantedCool, wantedHeat⟩ := aim.wanted mode operates
  have tested : (s.relinquished i).mode = s.mode := s.closeClaim_mode
  rw [State.stagesMoved_ready claimed (s.relinquished_ready i), tested]
  generalize (s.relinquished i).reportStages s = w at *
  have counts (d : Side) : (w.evaluateOnce .plain).runningCount d = s.runningCount d :=
    (State.runningCount_congr (State.isRunning_congr (w.evaluateOnce_stage .plain).1) d).trans
      (aim.counts d)
  rw [← w.evaluateOnce_mode .plain] at wantedCool wantedHeat
  rw [← wantedCool] at cool
  rw [← wantedHeat] at heat
  generalize w.evaluateOnce .plain = v at *
  have wanted (d : Side) : ¬ v.runningCount d < v.wanted d := by
    rw [counts, Nat.not_lt]
    cases d with
    | cooling => exact cool.within.2
    | heating => exact heat.within.2
  rw [State.serveWanted_within 4 (by rw [counts]; exact cool.within.1)
    (by rw [counts]; exact heat.within.1), State.selectable]
  simp [wanted]

end

/-! ## The end of the event -/

section
variable {s : State} {c : OpenClaim}

/-- R80: a withdrawal that leads to no new request. -/
theorem State.settleExpiry_withdraws (hp : s.powered = true) (claim : s.adm.claim = some c)
    (settling : s.adm.state = .settling) (timer : s.adm.settle.isSome = true)
    (sharing : s.station.state = .sharing) (unwanted : s.stillWanted c.slot = false)
    (passes : ((s.relinquished c.slot).stagesMoved s).select.takeRequest =
      ((s.relinquished c.slot).stagesMoved s).select) :
    ∃ t, exec .settleExpiry s = .next t ∧
      t.adm = { s.adm with
        state := .idle, claim := none, settle := none, denials := t.adm.denials } ∧
      (t.adm.denials = s.adm.denials ∨ t.adm.denials = 0) ∧
      t.stageState c.slot = .ready ∧ t.link.stateSlot.waiting = true ∧ t.fault = s.fault ∧
      s.stageFrame t := by
  have freed := (State.stagesMoved_freed (s.relinquished_ready c.slot) s).settleInto s passes
  rw [← State.settleClaim_withdraws unwanted] at freed
  obtain ⟨kept, denials⟩ := freed.kept.adm
  rw [State.relinquished_adm] at kept denials
  obtain ⟨fault, frame⟩ := s.settleClaim_settled c
  exact ⟨_, State.settleExpiry_runs hp claim settling timer, kept, denials, freed.slot,
    freed.kept.link.state (State.closeClaim_waiting sharing), fault, frame⟩

/-- R84, R85: a denial holds every further request off. -/
theorem State.settleClaim_denied (wanted : s.stillWanted c.slot = true)
    (unfit : s.claimFits c = false) :
    ((s.relinquished c.slot).deny c.level).Freed c.slot ((s.settleClaim c).settleInto s) := by
  have freed := State.stagesMoved_freed (z := (s.relinquished c.slot).deny c.level)
    (s.relinquished_ready c.slot) s
  rw [State.settleClaim_denies wanted unfit]
  refine freed.settleInto s (State.takeRequest_held ((State.startsHeld_iff _).2 (.inl ?_)))
  rw [State.select_eq, freed.kept.adm.1]
  nofun

end

/-- Settles O35: the denial, the two withdrawals, and when a stage is still wanted. -/
theorem settleDeniesOrWithdraws : Obligations.SettleDeniesOrWithdraws := by
  have operates {s : State} (sharing : s.station.state = .sharing) : s.station.state ≠ .config := by
    rw [sharing]
    nofun
  refine ⟨fun s c hp claim settling timer sharing claimed wanted barred => ?_,
    fun s c hp claim settling timer sharing claimed unwanted level => ?_,
    fun s c hp claim settling timer sharing claimed unwanted cool heat => ?_, fun s i => ?_⟩
  · have unfit : s.claimFits c = false := by
      rw [Bool.eq_false_iff, ne_eq, State.claimFits_iff]
      rintro ⟨room, clear⟩
      rcases barred with full | conflict
      · exact Nat.not_le.2 full room
      · rw [clear] at conflict
        cases conflict
    have freed := State.settleClaim_denied wanted unfit
    obtain ⟨fault, frame⟩ := s.settleClaim_settled c
    obtain ⟨kept, denials⟩ := freed.kept.adm
    have denied : ((s.relinquished c.slot).deny c.level).adm =
        { s.adm with
          claim := none, settle := none, state := .holdoff
          denials := min 255 (s.adm.denials + 1), holdoff := some (holdoffTime c.level s.number) } := by
      rw [State.deny, s.relinquished_adm, State.number,
        State.cfg_congr (s.relinquished_frame c.slot).config_eq]
      rfl
    rw [denied] at kept denials
    exact ⟨_, State.settleExpiry_runs hp claim settling timer, kept, denials, freed.slot,
      freed.kept.link.state (State.closeClaim_waiting sharing), fault, frame⟩
  · have passed := State.relinquished_level claimed (operates sharing) level
    exact State.settleExpiry_withdraws hp claim settling timer sharing unwanted
      (State.takeRequest_passes (.inr (.inl passed)))
  · have unselected := State.relinquished_unselected claimed (operates sharing) cool heat
    exact State.settleExpiry_withdraws hp claim settling timer sharing unwanted
      (State.takeRequest_passes (.inl (State.select_unselected unselected)))
  · simp only [State.stillWanted, Bool.and_eq_true, beq_iff_eq, decide_eq_true_eq, and_assoc]
    cases sideOf i <;> exact Iff.rfl

end Sys2Proof.Machine

/-! # The candidates of a shed call and the shortest leading part (R97 to R100)

R99's order is strict, so putting each candidate in its place keeps the list in order; the leading
part is read along the recursion that builds it. -/

namespace Sys2Proof.Machine

/-! ## The order of the candidates (R99) -/

section
variable {a b c : Candidate}

/-- R99: the three keys, each deciding where the ones before it are equal. -/
theorem Candidate.before_iff :
    a.before b = true ↔ a.level < b.level ∨
      (a.level = b.level ∧
        (b.offer < a.offer ∨ (a.offer = b.offer ∧ b.station < a.station))) := by
  simp [Candidate.before]

theorem Candidate.before_asymm (h : a.before b = true) : b.before a = false := by
  rw [Bool.eq_false_iff, ne_eq, Candidate.before_iff]
  rw [Candidate.before_iff] at h
  omega

theorem Candidate.before_trans (hab : a.before b = true) (hbc : b.before c = true) :
    a.before c = true := by
  rw [Candidate.before_iff] at *
  omega

/-- R99: what does not come before a candidate does not come before an earlier one. -/
theorem Candidate.not_before_earlier (hbc : b.before c = true) (hac : a.before c = false) :
    a.before b = false :=
  Bool.eq_false_iff.2 fun hab => Bool.eq_false_iff.1 hac (Candidate.before_trans hab hbc)

/-- R97: a call's three conditions on a candidate. -/
theorem Candidate.qualifies_iff {caller level : Nat} :
    c.qualifies caller level = true ↔
      0 < c.offer ∧ c.level + 2 ≤ level ∧ c.station ≠ caller := by
  simp [Candidate.qualifies, and_assoc]

end

/-! ## The ordered list (R97, R99) -/

/-- R99: no candidate of the list comes before an earlier one. -/
def Candidate.Ordered (list : List Candidate) : Prop :=
  list.Pairwise fun a b => b.before a = false

section
variable (c : Candidate) {list : List Candidate}

theorem insertCandidate_perm (list : List Candidate) :
    (insertCandidate c list).Perm (c :: list) := by
  induction list with
  | nil => exact .refl _
  | cons d rest ih =>
    rw [insertCandidate]
    split
    · exact .refl _
    · exact (ih.cons d).trans (.swap c d rest)

theorem insertCandidate_ordered (h : Candidate.Ordered list) :
    Candidate.Ordered (insertCandidate c list) := by
  induction list with
  | nil => exact List.pairwise_singleton _ _
  | cons d rest ih =>
    obtain ⟨first, tail⟩ := List.pairwise_cons.1 h
    rw [insertCandidate]
    split
    next earlier =>
      refine List.pairwise_cons.2 ⟨fun x hx => ?_, h⟩
      rcases List.mem_cons.1 hx with rfl | hx
      · exact Candidate.before_asymm earlier
      · exact Candidate.not_before_earlier earlier (first x hx)
    next later =>
      refine List.pairwise_cons.2 ⟨fun x hx => ?_, ih tail⟩
      rcases List.mem_cons.1 ((insertCandidate_perm c rest).mem_iff.1 hx) with rfl | hx
      · exact Bool.eq_false_iff.2 later
      · exact first x hx

theorem foldr_insertCandidate_perm (list : List Candidate) :
    (list.foldr insertCandidate []).Perm list := by
  induction list with
  | nil => exact .refl _
  | cons c rest ih => exact (insertCandidate_perm c _).trans (ih.cons c)

theorem foldr_insertCandidate_ordered (list : List Candidate) :
    Candidate.Ordered (list.foldr insertCandidate []) := by
  induction list with
  | nil => exact .nil
  | cons c rest ih => exact insertCandidate_ordered c ih

end

section
variable (s : State) (caller level : Nat)

theorem State.candidates_ordered : Candidate.Ordered (s.candidates caller level) :=
  foldr_insertCandidate_ordered _

/-- R97, R98: the candidates are the values of the entries that qualify. -/
theorem State.mem_candidates {c : Candidate} :
    c ∈ s.candidates caller level ↔
      (∃ e ∈ s.numbered, s.candidateOf e = some c) ∧ c.qualifies caller level = true := by
  rw [State.candidates, (foldr_insertCandidate_perm _).mem_iff, List.mem_filter,
    List.mem_filterMap]

end

/-! ## The shortest leading part (R100) -/

section
variable (needed : Nat) (list : List Candidate)

theorem shedPrefix_isPrefix : shedPrefix needed list <+: list := by
  fun_induction shedPrefix needed list with
  | case1 => exact List.prefix_refl _
  | case2 => exact List.nil_prefix
  | case3 needed c rest _ ih => exact (List.prefix_cons_inj c).2 ih

/-- R100: the offers reach the needed load, or the leading part is the whole list. -/
theorem shedPrefix_reaches :
    needed ≤ ((shedPrefix needed list).map Candidate.offer).sum ∨
      shedPrefix needed list = list := by
  fun_induction shedPrefix needed list with
  | case1 => exact .inr rfl
  | case2 => exact .inl (Nat.zero_le _)
  | case3 needed c rest _ ih =>
    rcases ih with reached | whole
    · rw [List.map_cons, List.sum_cons]
      exact .inl (Nat.sub_le_iff_le_add'.1 reached)
    · exact .inr (congrArg (c :: ·) whole)

/-- R100: the offers of a shorter leading part stay below the needed load. -/
theorem shedPrefix_shortest {k : Nat} (shorter : k < (shedPrefix needed list).length) :
    ((list.take k).map Candidate.offer).sum < needed := by
  fun_induction shedPrefix needed list generalizing k with
  | case1 => cases shorter
  | case2 => cases shorter
  | case3 needed c rest short ih =>
    cases k with
    | zero => exact Nat.pos_of_ne_zero short
    | succ k =>
      have below := ih (Nat.lt_of_succ_lt_succ shorter)
      rw [List.take_succ_cons, List.map_cons, List.sum_cons]
      omega

end

/-- Settles O27: the candidates and their order, and the three properties of `shedPrefix`. -/
theorem sheddingPrefixIsShortest : Obligations.SheddingPrefixIsShortest := by
  refine ⟨fun s caller level => ⟨s.candidates_ordered caller level, fun c => ?_⟩,
    fun needed list => ?_⟩
  · rw [State.mem_candidates, Candidate.qualifies_iff]
  · obtain ⟨rest, parts⟩ := shedPrefix_isPrefix needed list
    refine ⟨rest, parts, (shedPrefix_reaches needed list).imp_right fun whole => ?_,
      fun k => shedPrefix_shortest needed list⟩
    rwa [whole, List.append_right_eq_self] at parts

end Sys2Proof.Machine

/-! # One evaluation, whatever brings it (R108 to R113, R126 to R129) -/

namespace Sys2Proof.Machine

/-! ## The formations in order -/

/-- R116, R124: the mode with its wanted counts that an evaluation of this cause forms before the fan. -/
def State.aimFor (s : State) (cause : EvalCause) : ModeLogic :=
  s.formWanted (s.formUnitMode (s.yieldEnd
    (if cause = .neighbourUpdate then s.yieldTest s.formed else s.formed)))

theorem State.aimFor_aimed {s : State} {cause : EvalCause} (h : cause ≠ .neighbourUpdate) :
    s.aimFor cause = s.aimed := by
  rw [State.aimFor, if_neg h]
  rfl

/-- R126 to R130: the fan, the name of the mode and the damper formed. -/
def State.airFor (s : State) (cause : EvalCause) : ModeLogic :=
  s.formDamper (s.formFan cause (s.aimFor cause)).name

theorem State.formMode_config {s : State} (h : s.station.state = .config) (cause : EvalCause) :
    s.formMode cause = s.formDemand s.mode := by
  rw [State.formMode]
  exact if_pos h

/-- R108: an evaluation outside CONFIG, and the damper step of one that the damper timer brings. -/
theorem State.formMode_air {s : State} (h : s.station.state ≠ .config) (cause : EvalCause) :
    s.formMode cause =
      if cause = .damperStep then (s.airFor cause).damperStep else s.airFor cause := by
  rw [State.formMode]
  exact if_neg h

theorem State.formFan_damperStep (s : State) (m : ModeLogic) :
    s.formFan .damperStep m = s.formFan .plain m := by
  simp [State.formFan]

/-- R129: the damper timer's evaluation is a plain one and the damper step. -/
theorem State.formMode_damperStep {s : State} (h : s.station.state ≠ .config) :
    s.formMode .damperStep = (s.formMode .plain).damperStep := by
  rw [State.formMode_air h, State.formMode_air h, if_pos rfl, if_neg nofun, State.airFor,
    State.formFan_damperStep]
  rfl

/-! ## What the formations after the demand leave of it -/

/-- The zone, the demand, the calls, the economizer and the damper timer are the same. -/
structure ModeLogic.SameDemand (a b : ModeLogic) : Prop where
  zoneTemp : b.zoneTemp = a.zoneTemp := by rfl
  zoneSource : b.zoneSource = a.zoneSource := by rfl
  side : b.side = a.side := by rfl
  level : b.level = a.level := by rfl
  cool1 : b.cool1 = a.cool1 := by rfl
  cool2 : b.cool2 = a.cool2 := by rfl
  heat1 : b.heat1 = a.heat1 := by rfl
  heat2 : b.heat2 = a.heat2 := by rfl
  econAvailable : b.econAvailable = a.econAvailable := by rfl
  damperTimer : b.damperTimer = a.damperTimer := by rfl

theorem ModeLogic.SameDemand.trans {a b c : ModeLogic} (h : a.SameDemand b) (k : b.SameDemand c) :
    a.SameDemand c :=
  ⟨k.zoneTemp.trans h.zoneTemp, k.zoneSource.trans h.zoneSource, k.side.trans h.side,
    k.level.trans h.level, k.cool1.trans h.cool1, k.cool2.trans h.cool2, k.heat1.trans h.heat1,
    k.heat2.trans h.heat2, k.econAvailable.trans h.econAvailable,
    k.damperTimer.trans h.damperTimer⟩

theorem State.yieldTest_sameDemand (s : State) (m : ModeLogic) : m.SameDemand (s.yieldTest m) := by
  unfold State.yieldTest
  split
  · split <;> exact {}
  · exact {}

theorem State.yieldEnd_sameDemand (s : State) (m : ModeLogic) : m.SameDemand (s.yieldEnd m) := by
  unfold State.yieldEnd
  split
  · exact {}
  · split
    · split <;> exact {}
    · exact {}

theorem State.formUnitMode_sameDemand (s : State) (m : ModeLogic) :
    m.SameDemand (s.formUnitMode m) := by
  unfold State.formUnitMode
  split
  · split
    · split
      · exact {}
      · split <;> exact {}
    all_goals split <;> exact {}
  · exact {}

theorem State.aimFor_sameDemand (s : State) (cause : EvalCause) :
    s.formed.SameDemand (s.aimFor cause) := by
  refine .trans ?_ (((s.yieldEnd_sameDemand _).trans (s.formUnitMode_sameDemand _)).trans {})
  split
  · exact s.yieldTest_sameDemand _
  · exact {}

theorem State.formFan_sameDemand (s : State) (cause : EvalCause) (m : ModeLogic) :
    m.SameDemand (s.formFan cause m) := by
  rw [State.formFan_eq]
  exact {}

theorem ModeLogic.name_sameDemand (m : ModeLogic) : m.SameDemand m.name := by
  rw [ModeLogic.name_eq]
  exact {}

theorem State.airFor_sameDemand (s : State) (cause : EvalCause) :
    s.formed.SameDemand (s.airFor cause) :=
  (((s.aimFor_sameDemand cause).trans (s.formFan_sameDemand cause _)).trans
    (ModeLogic.name_sameDemand _)).trans {}

/-- R108: whatever brings an evaluation, its demand and calls are those formed first. -/
theorem State.formMode_sameDemand {s : State} (h : s.station.state ≠ .config) (cause : EvalCause) :
    s.formed.SameDemand (s.formMode cause) := by
  rw [State.formMode_air h]
  split
  · exact (s.airFor_sameDemand cause).trans {}
  · exact s.airFor_sameDemand cause

/-- R109 to R115: an evaluation that finds demand and calls as another left them, forms them again. -/
theorem State.formed_again {s t : State} (frame : s.stageFrame t)
    (h : s.formed.SameDemand t.mode) : s.formed.SameDemand t.formed := by
  have formed : t.formed = s.formedOf t.mode := frame.formedOf t.mode
  rw [formed]
  have again (before m : Bool) (e : Option Int) (setAt clearAt : Int)
      (hm : m = callOf before e setAt clearAt) : callOf m e setAt clearAt = m := by
    rw [hm, callOf_idem]
  exact
    { cool1 := (again _ _ _ _ _ h.cool1).trans h.cool1
      cool2 := (again _ _ _ _ _ h.cool2).trans h.cool2
      heat1 := (again _ _ _ _ _ h.heat1).trans h.heat1
      heat2 := (again _ _ _ _ _ h.heat2).trans h.heat2
      damperTimer := h.damperTimer }

/-! ## The demand -/

/-- R113: a level from a side NONE is 0. -/
theorem levelOf_none {c h : Option Int} (hardBand : Int) (side : (demandOf c h).1 = .none) :
    levelOf (demandOf c h).2 hardBand = 0 := by
  have error : (demandOf c h).2 = 0 := by
    unfold demandOf at *
    split at side
    · split at side
      · cases side
      · split at side
        · cases side
        · rename_i cool heat
          simp [cool, heat]
    · rfl
  rw [error]
  rfl

/-- R109 to R113: side and level are those the demand is formed with, in CONFIG too. -/
theorem State.formMode_level (s : State) (cause : EvalCause) :
    (s.formMode cause).side = (s.formDemand s.mode).side ∧
      (s.formMode cause).level = (s.formDemand s.mode).level := by
  by_cases h : s.station.state = .config
  · rw [State.formMode_config h]
    exact ⟨rfl, rfl⟩
  · have demand := State.formMode_sameDemand h cause
    exact ⟨demand.side, demand.level⟩

/-- R113: an evaluation leaves level 0 with side NONE. -/
theorem State.formMode_level_none {s : State} {cause : EvalCause}
    (side : (s.formMode cause).side = .none) : (s.formMode cause).level = 0 := by
  obtain ⟨formedSide, formedLevel⟩ := s.formMode_level cause
  rw [formedSide] at side
  rw [formedLevel]
  exact levelOf_none _ side

/-! ## The fan and the damper -/

theorem ModeLogic.name_fan (m : ModeLogic) : m.name.fan = m.fan := by rw [ModeLogic.name_eq]

theorem State.airFor_fan (s : State) (cause : EvalCause) :
    (s.airFor cause).fan = (s.formFan cause (s.aimFor cause)).fan := ModeLogic.name_fan _

/-- R126: the fan is commanded in the working states alone. -/
theorem State.formFan_working {s : State} {cause : EvalCause} {m : ModeLogic}
    (h : (s.formFan cause m).fan = true) : s.station.state.working = true := by
  unfold State.formFan at h
  split at h
  · assumption
  · cases h

/-- R128, R129: with the fan off the target and the command are 0. -/
theorem State.formDamper_off (s : State) {m : ModeLogic} (h : m.fan = false) :
    (s.formDamper m).damperTarget = 0 ∧ (s.formDamper m).damper = 0 := by
  simp [State.formDamper, State.targetOf, h]

/-- R129: the damper step is one toward the target. -/
theorem ModeLogic.damperStep_damper (m : ModeLogic) :
    m.damperStep.damper = damperToward m.damper m.damperTarget := rfl

theorem State.airFor_off {s : State} {cause : EvalCause} (h : (s.airFor cause).fan = false) :
    (s.airFor cause).damperTarget = 0 ∧ (s.airFor cause).damper = 0 :=
  s.formDamper_off h

/-- R126, R129: an evaluation outside CONFIG commands the fan in a working state alone, and the damper
not at all without it. -/
theorem State.formMode_airLaw {s : State} (h : s.station.state ≠ .config) (cause : EvalCause) :
    ({ s with mode := s.formMode cause } : State).airLaw = true := by
  have fan : (s.formMode cause).fan = (s.airFor cause).fan := by
    rw [State.formMode_air h]
    split <;> rfl
  rw [State.airLaw]
  dsimp only
  cases on : (s.airFor cause).fan with
  | true =>
    rw [if_pos (fan.trans on)]
    rw [State.airFor_fan] at on
    exact State.formFan_working on
  | false =>
    obtain ⟨target, damper⟩ := State.airFor_off on
    rw [if_neg (by rw [fan, on]; nofun), beq_iff_eq, State.formMode_air h]
    split
    · rw [ModeLogic.damperStep_damper, target, damper]
      rfl
    · exact damper

end Sys2Proof.Machine

/-! # A property of the mode carried to the end of an event

Evaluations follow one another within an event, each from the mode the last one left: a stop or a
start is reported with an evaluation of its own. What such an evaluation makes of a property is said
once here, with the changeover timers and the mode of a grant (R119, R123), and carried through the
normal stops, the selection and the taking of a request. -/

namespace Sys2Proof.Machine

/-! ## What moves no slot and not the mode -/

/-- Within the frame of an event neither the mode nor a slot moved. -/
structure State.Still (s t : State) : Prop where
  frame : s.stageFrame t
  mode : t.mode = s.mode
  slots : t.stage.slots = s.stage.slots

theorem State.requestState_still (s : State) (roll : Bool) : s.Still (s.requestState roll) :=
  ⟨s.requestState_frame roll, s.requestState_mode roll, by rw [s.requestState_stage roll]⟩

theorem State.Still.trans {a b c : State} (h : a.Still b) (k : b.Still c) : a.Still c :=
  ⟨State.stageFrame_trans h.frame k.frame, k.mode.trans h.mode, k.slots.trans h.slots⟩

/-- R108: what an evaluation hands on moves no slot. -/
theorem State.evaluateOnce_still (s : State) (cause : EvalCause) :
    ({ s with mode := s.formMode cause } : State).Still (s.evaluateOnce cause) := by
  refine ⟨?_, s.evaluateOnce_mode cause, (s.evaluateOnce_stage cause).1⟩
  exact State.stageFrame_trans (State.stageFrame_trans (State.handDemand_frame _ _)
    (State.handFan_frame _ _)) (State.handReport_frame _ _)

/-- R137: what transitions hand on ahead of the evaluation. -/
theorem State.reportStages_still (s before : State) :
    ({ s with mode := s.movedMode before } : State).Still (s.reportStages before) := by
  rw [State.reportStages_eq]
  split
  · exact ⟨⟨rfl, rfl⟩, rfl, rfl⟩
  · exact State.requestState_still _ false

/-- A stop that leaves every stage state found nothing to stop. -/
theorem State.stopSlot_same {s : State} {i : Slot}
    (h : (s.stopSlot i).stageStates = s.stageStates) : s.stopSlot i = s := by
  by_cases running : s.isRunning i = true
  · have state : (s.stopSlot i).stageState i = s.stageState i := by
      rw [← State.stageStates_get, h, State.stageStates_get]
    have stopped := (State.stopSlot_rests running).1
    rw [State.isRunning, ← state, State.stageState, stopped] at running
    cases running
  · rw [State.stopSlot, if_neg running]

/-- R147: the normal stops are those of stages in RUN_FREE. -/
theorem State.runFree_of_stopsDue {s : State} {d : Side} {i : Slot} (h : i ∈ s.stopsDue d) :
    s.stageState i = .runFree := by
  have kept := (List.mem_filter.1 (List.mem_of_mem_take h)).2
  simp only [Bool.and_eq_true, beq_iff_eq] at kept
  exact kept.2

theorem State.runFree_of_stopsFor {s : State} {tested : ModeLogic} {i : Slot}
    (h : i ∈ s.stopsFor tested) : s.stageState i = .runFree := by
  rw [State.stopsFor, List.mem_append] at h
  rcases h with h | h
  all_goals
    split at h
    · cases h
    · exact State.runFree_of_stopsDue h

/-! ## The mode of a start -/

/-- R119: the mode as the taking of a request for slot `i` leaves it: as it was, or the one a grant on
the slot's side gives. -/
def State.StartsAs (s : State) (i : Slot) (t : State) : Prop :=
  t.mode = s.mode ∨ t.mode = { s.mode with mode := (sideOf i).mode, fullOpen := .stopped }

theorem State.grant_startsAs (s : State) (i : Slot) {m : Intended}
    (h : m = .none ∨ m = (sideOf i).intended) : s.StartsAs i (s.grant i m) := by
  have started (u : State) : (u.startSlot i).mode = u.mode := by rw [State.startSlot_eq]
  have set (u : State) (d : Side) : (u.grantMode d.intended).mode = u.mode ∨
      (u.grantMode d.intended).mode = { u.mode with mode := d.mode, fullOpen := .stopped } := by
    cases d <;>
    · simp only [State.grantMode, Side.intended, Side.mode]
      split
      · exact .inl rfl
      · exact .inr (by rw [State.requestState_mode])
  rw [State.StartsAs, State.grant]
  rcases h with rfl | rfl
  · exact .inl (started _)
  · have given := set (({ s with adm.denials := 0, stage.presented := none } : State).startSlot i)
      (sideOf i)
    rwa [started] at given

theorem State.decideLocal_startsAs (s : State) (i : Slot) (level counted limit : Nat) :
    s.StartsAs i (s.decideLocal i level counted limit) := by
  unfold State.decideLocal
  dsimp only
  split
  · refine State.grant_startsAs _ i ?_
    rw [State.intendedFor_eq]
    split
    · refine .inr ?_
      cases sideOf i <;> rfl
    · exact .inl rfl
  · exact .inl rfl

theorem State.preCheck_startsAs (s : State) (i : Slot) (level : Nat) :
    s.StartsAs i (s.preCheck i level) := by
  unfold State.preCheck
  dsimp only
  split
  · exact .inl (by rw [State.openClaim, State.requestState_mode]; rfl)
  · split
    · exact .inl (by rw [State.callShed, State.requestShed_mode])
    · exact .inl rfl

/-- R70, R73: a request taken is decided, with no other mode than the one its grant gives. -/
theorem State.takeRequest_startsAs {s : State} {i : Slot} (h : s.stage.presented = some i) :
    s.StartsAs i s.takeRequest := by
  rw [State.takeRequest, h]
  dsimp only
  split
  · cases s.station.state with
    | sharing => exact State.preCheck_startsAs _ i _
    | isolated | solo => exact State.decideLocal_startsAs _ i _ _ _
    | config | joining | shutdown | left => exact .inl rfl
  · exact .inl rfl

/-- R77, R143: a claim and a start move the slot they are for; a shed call and a denial move none. -/
theorem State.Decision.moves_or_still {s t : State} {i : Slot} (d : s.Decision i t)
    (ready : s.stageState i = .ready) : t.stageStates ≠ s.stageStates ∨ s.Still t := by
  have frame := d.frame
  have moved {a : StageState} (ha : t.stageState i = a) (hr : a ≠ .ready) :
      t.stageStates ≠ s.stageStates := fun same => hr (by
    rw [← ha, ← ready, ← State.stageStates_get, same, State.stageStates_get])
  cases d with
  | claim level headroom =>
    exact .inl (moved (a := .claimed) (State.openClaim_claimed _ i level) nofun)
  | shed level headroom needed =>
    exact .inr ⟨frame, by simp [State.callShed, State.judged], by simp [State.callShed, State.judged]⟩
  | denied => exact .inr ⟨frame, rfl, rfl⟩
  | granted level headroom mode =>
    refine .inl (moved rfl ?_)
    rw [State.stageState, State.grant_slot]
    rcases State.startedStage_state (s.judged level headroom) i with h | h <;> rw [h] <;> nofun

/-! ## Properties that last -/

/-- How the operations of an event treat a property: `S` holds between them, `W` before the evaluation
that the report of a stop or a start brings. -/
structure State.Carried (W S : State → Prop) : Prop where
  still : ∀ {s t : State}, S s → s.Still t → S t
  unformed : ∀ {s t : State}, W s → s.Still t → W t
  form : ∀ s : State, W s → S { s with mode := s.formMode .plain }
  stop : ∀ (s : State) (i : Slot), s.stageState i = .runFree → S s →
    W { s.stopSlot i with mode := (s.stopSlot i).movedMode s }
  start : ∀ (s t : State) (i : Slot), S s → s.selectable i = true → s.Decision i t →
    s.StartsAs i t → W { t with mode := t.movedMode s }

namespace State.Carried

variable {W S : State → Prop}

theorem evaluateOnce (k : State.Carried W S) {s : State} (h : W s) : S (s.evaluateOnce .plain) :=
  k.still (k.form s h) (s.evaluateOnce_still .plain)

/-- R137: a transition is reported with an evaluation, or was none. -/
theorem reportMove (k : State.Carried W S) {s before : State}
    (moved : s.stageStates ≠ before.stageStates → W { s with mode := s.movedMode before })
    (same : s.stageStates = before.stageStates → S s) : S (s.reportMove before) := by
  unfold State.reportMove
  split
  · rename_i h
    exact same h
  · rename_i h
    exact k.evaluateOnce (k.unformed (moved h) (s.reportStages_still before))

theorem stops (k : State.Carried W S) (l : List Slot) {s : State} (h : S s)
    (free : ∀ j ∈ l, s.isRunning j = true → s.stageState j = .runFree) :
    S (s.moveEach State.stopSlot l) := by
  induction l generalizing s with
  | nil => exact h
  | cons i rest ih =>
    rw [State.moveEach_cons]
    refine ih (k.reportMove (fun moved => ?_) fun same => by rwa [State.stopSlot_same same])
      fun j hj runs => ?_
    · have runs : s.isRunning i = true := by
        by_contra idle
        exact moved (by rw [State.stopSlot, if_neg idle])
      exact k.stop s i (free i List.mem_cons_self runs) h
    · have slots := ((s.stopSlot i).reportMove_stage s).1
      rw [State.isRunning_congr slots, State.isRunning_stopSlot, Bool.and_eq_true, bne_iff_ne] at runs
      obtain ⟨runs, other⟩ := runs
      rw [State.stageState_congr slots, State.stageState, State.stopSlot_slot,
        if_neg fun h => other h.1]
      exact free j (List.mem_cons_of_mem i hj) runs

theorem serveWanted (k : State.Carried W S) (fuel : Nat) :
    ∀ (tested : ModeLogic) (s : State), S s → S (State.serveWanted fuel tested s) := by
  induction fuel with
  | zero => exact fun _ _ h => h
  | succ n ih =>
    intro tested s h
    unfold State.serveWanted
    split
    · exact h
    · exact ih _ _ (k.stops _ h fun j hj _ => State.runFree_of_stopsFor hj)

/-- The evaluation an event begins with, and the normal stops it brings. -/
theorem evaluate (k : State.Carried W S) {s : State} {cause : EvalCause}
    (h : S { s with mode := s.formMode cause }) : S (s.evaluate cause) :=
  k.serveWanted 4 _ _ (k.still h (s.evaluateOnce_still cause))

theorem takeRequest (k : State.Carried W S) {s : State} (h : S s)
    (presented : ∀ i, s.stage.presented = some i → s.selectable i = true) :
    S (s.takeRequest.reportMove s) := by
  rcases s.takeRequest_decides with same | ⟨i, some, _, _, d⟩
  · rw [same]
    exact k.reportMove (fun moved => absurd rfl moved) fun _ => h
  · have selectable := presented i some
    refine k.reportMove (fun _ => k.start s _ i h selectable d (State.takeRequest_startsAs some))
      fun same => ?_
    exact (d.moves_or_still (State.ready_of_selectable selectable)).elim (absurd same) (k.still h)

/-- R70, R94, R141: what follows the effect of an event. -/
theorem settleStarts (k : State.Carried W S) {s : State} (before : State) (h : S s) :
    S (s.settleStarts before) := by
  have selected (t : State) : t.Still t.select := ⟨t.select_frame, rfl, rfl⟩
  have started : S s.serveStarts :=
    k.still (k.serveWanted 4 _ _ (k.takeRequest (k.still h (selected s)) s.select_presented.1))
      (selected _)
  rw [State.settleStarts, State.reportOffer]
  split
  · exact started
  · exact k.still started (State.requestState_still _ false)

theorem settleInto (k : State.Carried W S) {s : State} (before : State) (h : S s) :
    S (s.settleInto before) := by
  rw [State.settleInto]
  exact k.still (k.settleStarts before h) ⟨State.drivePins_frame _, State.drivePins_mode _, by
    rw [State.drivePins_stage]⟩

end State.Carried

/-! ## Properties of the mode alone -/

/-- R123: the report of a transition loads changeover timers at most. -/
theorem State.movedMode_of {R : ModeLogic → Prop} (load : ∀ m d, R m → R (m.loadChangeover d))
    {s : State} (before : State) (h : R s.mode) : R (s.movedMode before) := by
  unfold State.movedMode
  dsimp only
  repeat' split
  · exact load _ _ (load _ _ h)
  · exact load _ _ h
  · exact load _ _ h
  · exact h

/-- A property of the mode that the events of the plant at `z` keep: plain evaluations, changeover
timers, and the mode of a grant on a side whose count is not 0. -/
structure State.Lasts (z : State) (R : ModeLogic → Prop) : Prop where
  form : ∀ t : State, z.stageFrame t → R t.mode → R (t.formMode .plain)
  load : ∀ (m : ModeLogic) (d : Side), R m → R (m.loadChangeover d)
  grant : ∀ (t : State) (d : Side), R t.mode → 0 < t.wanted d →
    R { t.mode with mode := d.mode, fullOpen := .stopped }

/-- R141: a slot that can be selected is one of a side that wants more stages. -/
theorem State.wanted_of_selectable {s : State} {i : Slot} (h : s.selectable i = true) :
    0 < s.wanted (sideOf i) := by
  simp only [State.selectable, Bool.and_eq_true, decide_eq_true_eq] at h
  exact Nat.zero_lt_of_lt h.1.1.1.1

/-- The frame of the event at `z` and a property of the mode. -/
def State.Within (z : State) (R : ModeLogic → Prop) (t : State) : Prop :=
  z.stageFrame t ∧ R t.mode

theorem State.Within.still {z s t : State} {R : ModeLogic → Prop} (h : z.Within R s)
    (k : s.Still t) : z.Within R t :=
  ⟨State.stageFrame_trans h.1 k.frame, k.mode ▸ h.2⟩

theorem State.StartsAs.of_grant {s t : State} {i : Slot} {R : ModeLogic → Prop}
    (starts : s.StartsAs i t) (h : R s.mode)
    (grant : R { s.mode with mode := (sideOf i).mode, fullOpen := .stopped }) : R t.mode := by
  rcases starts with same | granted
  · rw [same]
    exact h
  · rw [granted]
    exact grant

theorem State.Lasts.carried {z : State} {R : ModeLogic → Prop} (k : z.Lasts R) :
    State.Carried (z.Within R) (z.Within R) where
  still := State.Within.still
  unformed := State.Within.still
  form s h := ⟨State.stageFrame_trans h.1 ⟨rfl, rfl⟩, k.form s h.1 h.2⟩
  stop s i _ h :=
    ⟨State.stageFrame_trans h.1 (State.stageFrame_trans (s.stopSlot_frame i) ⟨rfl, rfl⟩),
      State.movedMode_of k.load s (by rw [State.stopSlot_mode]; exact h.2)⟩
  start s t i h selectable d starts :=
    ⟨State.stageFrame_trans h.1 (State.stageFrame_trans d.frame ⟨rfl, rfl⟩),
      State.movedMode_of k.load s (starts.of_grant h.2
        (k.grant s _ h.2 (State.wanted_of_selectable selectable)))⟩

theorem State.Lasts.and {z : State} {Q R : ModeLogic → Prop} (k : z.Lasts Q) (l : z.Lasts R) :
    z.Lasts fun m => Q m ∧ R m where
  form t frame h := ⟨k.form t frame h.1, l.form t frame h.2⟩
  load m d h := ⟨k.load m d h.1, l.load m d h.2⟩
  grant t d h wanted := ⟨k.grant t d h.1 wanted, l.grant t d h.2 wanted⟩

/-- What every evaluation forms anew from a property that lasts stands between the operations too. -/
theorem State.Lasts.carriedForming {z : State} {R Q : ModeLogic → Prop} (k : z.Lasts R)
    (form : ∀ t : State, z.stageFrame t → R t.mode → Q (t.formMode .plain)) :
    State.Carried (z.Within R) (z.Within fun m => R m ∧ Q m) where
  still := State.Within.still
  unformed := State.Within.still
  form s h := ⟨(k.carried.form s h).1, (k.carried.form s h).2, form s h.1 h.2⟩
  stop s i running h := k.carried.stop s i running ⟨h.1, h.2.1⟩
  start s t i h := k.carried.start s t i ⟨h.1, h.2.1⟩

/-- What an evaluation brings about and later ones keep holds at the end of its event. -/
theorem State.Lasts.evaluated {z : State} {R : ModeLogic → Prop} (k : z.Lasts R) {cause : EvalCause}
    (before : State) (h : R (z.formMode cause)) :
    z.Within R ((z.evaluate cause).settleInto before) :=
  k.carried.settleInto before (k.carried.evaluate ⟨⟨rfl, rfl⟩, h⟩)

end Sys2Proof.Machine

/-! # What every command keeps of the record, the demand and the air (R113, R126, R129, R202)

A law that looks at the record, the station state, and the Mode Logic's demand, fan and damper is shown
once for an evaluation, an entry into a station state, a restart and CONFIGURE. Everything else a
command does leaves these alone (`State.SameAir`) or is reported with an evaluation. -/

namespace Sys2Proof.Machine

/-- `t` has the record, the station state, the demand, the fan and the damper of `s`. -/
structure State.SameAir (s t : State) : Prop where
  config : t.config = s.config := by rfl
  state : t.station.state = s.station.state := by rfl
  side : t.mode.side = s.mode.side := by rfl
  level : t.mode.level = s.mode.level := by rfl
  fan : t.mode.fan = s.mode.fan := by rfl
  damper : t.mode.damper = s.mode.damper := by rfl

/-! ## What leaves them alone -/

theorem State.SameAir.trans {a b c : State} (h : a.SameAir b) (k : b.SameAir c) : a.SameAir c :=
  ⟨k.config.trans h.config, k.state.trans h.state, k.side.trans h.side, k.level.trans h.level,
    k.fan.trans h.fan, k.damper.trans h.damper⟩

/-- An event of the plant that does not reach the mode. -/
theorem State.SameAir.of_frame {s t : State} (frame : s.stageFrame t) (mode : t.mode = s.mode) :
    s.SameAir t where
  config := frame.config_eq
  state := by rw [frame.station_eq]
  side := by rw [mode]
  level := by rw [mode]
  fan := by rw [mode]
  damper := by rw [mode]

theorem State.Still.sameAir {s t : State} (h : s.Still t) : s.SameAir t := .of_frame h.frame h.mode

theorem State.raise_sameAir (s : State) (c : Category) : s.SameAir (s.raise c) :=
  .of_frame (s.raise_frame c) (s.raise_mode c)

theorem State.stopSlot_sameAir (s : State) (i : Slot) : s.SameAir (s.stopSlot i) :=
  .of_frame (s.stopSlot_frame i) (s.stopSlot_mode i)

theorem State.trip_sameAir (s : State) (i : Slot) (cause : Category) : s.SameAir (s.trip i cause) := by
  refine .of_frame (s.trip_frame i cause) ?_
  unfold State.trip
  split
  · dsimp only
    split
    · rw [State.raise_mode, State.raise_mode]
    · rw [State.raise_mode]
  · rfl

theorem State.coilDelivered_sameAir (s : State) (n : Circuit) : s.SameAir (s.coilDelivered n) := by
  unfold State.coilDelivered
  split
  · split
    · rw [State.testFreeze_eq]
      exact {}
    · exact {}
  · exact {}

theorem State.fanProve_sameAir (s : State) : s.SameAir s.fanProveOn ∧ s.SameAir s.fanProveOff := by
  constructor
  · unfold State.fanProveOn
    split <;> exact {}
  · unfold State.fanProveOff
    split <;> exact {}

theorem State.pressure_sameAir (s : State) (n : Circuit) (cause : Category) :
    s.SameAir (s.highPressure n cause) ∧ s.SameAir (s.lowPressure n cause) := by
  constructor
  · unfold State.highPressure
    split
    · exact s.trip_sameAir _ cause
    · exact s.raise_sameAir cause
  · unfold State.lowPressure
    split
    · exact s.trip_sameAir _ cause
    · exact s.trip_sameAir _ cause
    · exact {}

theorem State.heatProve_sameAir (s : State) (i : Slot) :
    s.SameAir (s.proveHeat i) ∧ s.SameAir (s.losesHeatProve i) := by
  constructor
  · unfold State.proveHeat
    split <;> exact {}
  · unfold State.losesHeatProve
    split
    · exact s.trip_sameAir i _
    · exact s.trip_sameAir i _
    · exact {}

/-- R119: a grant reaches of the mode the unit mode and the full-open timer alone. -/
theorem State.grant_sameAir (s : State) (i : Slot) (m : Intended) : s.SameAir (s.grant i m) := by
  have set (u : State) (v : UnitMode) : u.SameAir (if u.mode.mode = v then u
      else State.requestState { u with mode.mode := v, mode.fullOpen := .stopped }) := by
    split
    · exact {}
    · exact .trans {} (State.requestState_still _ false).sameAir
  have started : s.SameAir
      (({ s with adm.denials := 0, stage.presented := none } : State).startSlot i) := by
    rw [State.startSlot_eq]
    exact {}
  cases m with
  | none => exact started
  | cool => exact started.trans (set _ .cool)
  | heat => exact started.trans (set _ .heat)

theorem State.closeClaim_sameAir (s : State) : s.SameAir s.closeClaim :=
  .of_frame s.closeClaim_frame s.closeClaim_mode

theorem State.setEntry_sameAir (s : State) (n : Nat) (e : Entry) : s.SameAir (s.setEntry n e) := by
  unfold State.setEntry
  split <;> exact {}

theorem State.recomputeCeiling_sameAir (s : State) : s.SameAir s.recomputeCeiling := by
  unfold State.recomputeCeiling
  dsimp only
  split
  · exact .trans {} (State.raise_sameAir _ .ceilingMismatch)
  · exact {}

theorem State.raiseInput_sameAir (s : State) (r : InputRole) (e : InputEvent) :
    s.SameAir (s.raiseInput r e) := by
  unfold State.raiseInput
  split
  · split
    · exact s.raise_sameAir _
    · exact {}
  · exact {}

theorem State.clearFaults_sameAir (s : State) (set : BitVec 24) : s.SameAir (s.clearFaults set) := by
  have all (cs : List Category) : ∀ u : State, u.SameAir (u.raiseAll cs) := by
    induction cs with
    | nil => exact fun _ => {}
    | cons c cs ih => exact fun u => (u.raise_sameAir c).trans (ih _)
  unfold State.clearFaults
  split
  · exact {}
  · exact .trans {} (all _ _)

/-- R123: changeover timers are none of it. -/
theorem State.movedMode_sameAir (s before : State) :
    s.SameAir { s with mode := s.movedMode before } :=
  State.movedMode_of (R := fun m => s.SameAir { s with mode := m })
    (fun _ _ h => h.trans {}) before {}

theorem State.StartsAs.sameAir {s t : State} {i : Slot} (h : s.StartsAs i t)
    (frame : s.stageFrame t) : s.SameAir t := by
  rcases h with same | granted
  · exact .of_frame frame same
  · exact ⟨frame.config_eq, by rw [frame.station_eq], by rw [granted], by rw [granted],
      by rw [granted], by rw [granted]⟩

/-! ## Laws of the record and the air -/

/-- A law that every command keeps: what evaluations, entries, restarts and CONFIGURE do to it. An
entry's own evaluation comes when the station state has changed. -/
structure State.AirKept (P : State → Prop) : Prop where
  core : ∀ {s t : State}, P s → s.SameAir t → P t
  form : ∀ (s : State) (cause : EvalCause), P s → P { s with mode := s.formMode cause }
  enter : ∀ {s t : State}, P s → t.config = s.config → t.station.state ≠ .config →
    P { t with mode := t.formMode .plain }
  join : ∀ (s : State) (cfg : ConfigRecord), P s → P (s.joiningQuietly cfg)
  restarted : ∀ s : State, P s → P s.restarted
  record : ∀ (s : State) (b : List Byte), b.length = 70 → firstFailing b = none → P s →
    P { s with config := some (readRecord b) }
  reset : P State.reset

namespace State.AirKept

variable {P : State → Prop}

/-! ## The plant -/

theorem carried (k : State.AirKept P) : State.Carried P P where
  still h e := k.core h e.sameAir
  unformed h e := k.core h e.sameAir
  form s h := k.form s .plain h
  stop s i _ h := k.core h ((s.stopSlot_sameAir i).trans (State.movedMode_sameAir _ s))
  start s t _ h _ d starts := k.core h ((starts.sameAir d.frame).trans (t.movedMode_sameAir s))

theorem evaluated (k : State.AirKept P) {s : State} (cause : EvalCause) (h : P s) :
    P (s.evaluate cause) := k.carried.evaluate (k.form s cause h)

theorem reported (k : State.AirKept P) {s : State} (before : State) (h : P s) :
    P (s.reportMove before) :=
  k.carried.reportMove (fun _ => k.core h (s.movedMode_sameAir before)) fun _ => h

theorem moved (k : State.AirKept P) {s : State} (before : State) (h : P s) :
    P (s.stagesMoved before) := k.carried.serveWanted 4 _ _ (k.reported before h)

theorem moves (k : State.AirKept P) {move : State → Slot → State}
    (hm : ∀ (s : State) (i : Slot), s.SameAir (move s i)) (l : List Slot) {s : State} (h : P s) :
    P (s.moveEach move l) := by
  induction l generalizing s with
  | nil => exact h
  | cons i rest ih =>
    rw [State.moveEach_cons]
    exact ih (k.reported s (k.core h (hm s i)))

theorem allMoved (k : State.AirKept P) {move : State → Slot → State}
    (hm : ∀ (s : State) (i : Slot), s.SameAir (move s i)) (l : List Slot) {s : State} (h : P s) :
    P (s.moveAll move l) := k.carried.serveWanted 4 _ _ (k.moves hm l h)

theorem settled (k : State.AirKept P) {s : State} (before : State) (h : P s) :
    P (s.settleInto before) := k.carried.settleInto before h

theorem raise (k : State.AirKept P) {s : State} (c : Category) (h : P s) : P (s.raise c) :=
  k.core h (s.raise_sameAir c)

theorem request (k : State.AirKept P) {s : State} (roll : Bool) (h : P s) : P (s.requestState roll) :=
  k.core h (s.requestState_still roll).sameAir

theorem stageActivated (k : State.AirKept P) {s : State} (r : InputRole) (h : P s) :
    P (s.stageActivated r) := by
  cases r with
  | fanProve => exact k.core h s.fanProve_sameAir.1
  | hp1 | hp2 => exact k.moved s (k.core h (s.pressure_sameAir _ _).1)
  | lp1 | lp2 => exact k.moved s (k.core h (s.pressure_sameAir _ _).2)
  | heatProve => exact k.allMoved (fun s i => (s.heatProve_sameAir i).1) _ h
  | occ | smoke | filter => exact h

theorem stageDeactivated (k : State.AirKept P) {s : State} (r : InputRole) (h : P s) :
    P (s.stageDeactivated r) := by
  cases r with
  | fanProve => exact k.core h s.fanProve_sameAir.2
  | heatProve => exact k.allMoved (fun s i => (s.heatProve_sameAir i).2) _ h
  | occ | smoke | filter | hp1 | hp2 | lp1 | lp2 => exact h

theorem failFanProof (k : State.AirKept P) {s : State} (h : P s) : P s.failFanProof := by
  unfold State.failFanProof
  refine k.raise .fanProve (k.allMoved State.stopSlot_sameAir allSlots ?_)
  exact k.core h {}

theorem freeSlot (k : State.AirKept P) {s : State} (i : Slot) (h : P s) : P (s.freeSlot i) :=
  k.carried.serveWanted 4 _ _ (k.carried.stops _ (k.reported s (k.core h {})) fun j hj _ =>
    (State.stageState_congr (State.reportMove_stage _ s).1 j).trans (State.runFree_of_stopsDue hj))

theorem settleClaim (k : State.AirKept P) {s : State} (c : OpenClaim) (h : P s) :
    P (s.settleClaim c) := by
  have closed : P s.closeClaim := k.core h s.closeClaim_sameAir
  unfold State.settleClaim
  split
  · exact k.moved s (k.core closed {})
  · split
    · exact k.moved s (k.core closed (State.grant_sameAir _ _ _))
    · exact k.moved s (k.core closed {})

/-! ## The sensors -/

theorem deliverResult (k : State.AirKept P) {s : State} (ch : Channel) (h : P s) :
    P (s.deliverResult ch) := by
  unfold State.deliverResult
  split
  · exact k.core h (s.coilDelivered_sameAir _)
  · have formed := k.evaluated .plain h
    dsimp only
    split
    · unfold State.heatLimit
      split
      · split
        · exact k.allMoved (fun s i => s.trip_sameAir i _) _ formed
        · exact formed
      · exact formed
    · exact formed

theorem deliverChanges (k : State.AirKept P) {s : State} (before : State) (h : P s) :
    P (s.deliverChanges before) := by
  unfold State.deliverChanges
  induction allChannels generalizing s with
  | nil => exact h
  | cons ch rest ih =>
    rw [List.foldl_cons]
    refine ih ?_
    unfold State.deliverChange
    split
    · exact h
    · split
      · exact k.core h (s.coilDelivered_sameAir _)
      · exact k.evaluated .plain h

theorem referenceCheck (k : State.AirKept P) {s : State} (h : P s) : P s.referenceCheck := by
  unfold State.referenceCheck
  dsimp only
  split
  · split
    · exact k.deliverChanges _ (k.raise .refCheck (k.core h {}))
    · exact k.core h {}
  · split
    · exact k.deliverChanges _ (k.core h {})
    · exact k.core h {}

theorem complete (k : State.AirKept P) {s : State} (c : Conversion) (code : BitVec 12) (h : P s) :
    P (s.complete c code) := by
  cases c with
  | refHigh => exact k.core h {}
  | refLow => exact k.referenceCheck (k.core h {})
  | external ch =>
    simp only [State.complete, State.externalComplete]
    split
    · exact h
    · split
      · exact k.core h {}
      · refine k.deliverResult ch ?_
        split
        · exact k.raise _ (k.core h {})
        · exact k.core h {}

/-! ## Station control -/

/-- R108, R147: the evaluation at the end of an entry. -/
theorem entered (k : State.AirKept P) {s u : State} (before : State) (h : P s)
    (config : u.config = s.config) (state : u.station.state ≠ .config) : P (u.entered before) :=
  k.carried.serveWanted 4 _ _
    (k.core (k.enter h config state) (u.evaluateOnce_still .plain).sameAir)

/-- An entry into `new` that ends with its evaluation. -/
theorem entry (k : State.AirKept P) {s u : State} {new : StationState} {cause : IsolationCause}
    (before : State) (h : P s) (frame : (s.setStation new cause).stageFrame u)
    (hn : new ≠ .config) : P (u.entered before) :=
  k.entered before h (frame.config_eq.trans (s.setStation_config new cause))
    (by rw [frame.station_eq, State.setStation_station]; exact hn)

theorem isolate (k : State.AirKept P) {s : State} (cause : IsolationCause) (h : P s) :
    P (s.enterIsolated cause) :=
  s.enterIsolated_of cause (fun _ => k.raise _) (k.entry s h
    (State.stageFrame_trans (State.stageFrame_trans (State.stopToCap_frame _)
      (State.admissionIdle_stageFrame _)) (State.requestState_frame _ false)) nofun)

theorem shutdown (k : State.AirKept P) {s : State} (h : P s) : P s.enterShutdown :=
  k.entry s h (State.stageFrame_trans (State.stageFrame_trans (State.stopAll_frame _)
    (State.admissionIdle_stageFrame _)) (State.requestState_frame _ false)) nofun

theorem work (k : State.AirKept P) {s : State} {new : StationState} (hn : new ≠ .config) (h : P s) :
    P (s.enterWorking new) :=
  k.entry s h (State.stageFrame_trans (State.admissionIdle_stageFrame _)
    (State.requestState_frame _ false)) hn

theorem leave (k : State.AirKept P) {s : State} (h : P s) : P s.enterLeft := by
  refine k.entered (u := s.leftQuietly) s h ?_ (by rw [s.leftQuietly_station]; nofun)
  rw [State.leftQuietly, State.askLeave_config, (State.admissionIdle_stageFrame _).config_eq,
    (State.stopAll_frame _).config_eq, State.setStation_config]

theorem joined (k : State.AirKept P) {s : State} (cfg : ConfigRecord) (h : P s) :
    P (s.enterJoining cfg) := by
  rw [State.enterJoining_eq]
  exact k.evaluated .plain (k.request true (k.join s cfg h))

theorem restart (k : State.AirKept P) {s : State} (h : P s) : P s.doRestart := by
  rw [State.doRestart_eq]
  split
  · exact k.joined _ (k.restarted s h)
  · exact k.restarted s h

theorem returnToSharing (k : State.AirKept P) {s : State} (holds : Bool) (h : P s) :
    P (s.returnToSharing holds) := by
  unfold State.returnToSharing
  split
  · exact k.work nofun h
  · exact h

theorem leaveShutdown (k : State.AirKept P) {s : State} (h : P s) : P s.leaveShutdown := by
  unfold State.leaveShutdown
  repeat' split
  · exact k.isolate _ h
  · exact k.work nofun h
  · exact k.isolate _ h
  · exact k.isolate _ h
  · exact k.work nofun h

theorem joinDecision (k : State.AirKept P) {s : State} (h : P s) : P s.joinDecision := by
  unfold State.joinDecision
  repeat' split
  · exact k.shutdown h
  · exact k.work nofun h
  · exact k.isolate _ h
  · exact k.work nofun h
  · exact k.isolate _ h

theorem dropReported (k : State.AirKept P) {s : State} (h : P s) : P s.dropReported := by
  unfold State.dropReported
  split
  · refine k.raise .linkTx ?_
    cases s.station.state with
    | sharing => exact k.isolate .transmit h
    | isolated =>
      dsimp only
      split
      · exact k.core h {}
      · exact h
    | config | joining | solo | shutdown | left => exact h
  · exact h

theorem duplicateFound (k : State.AirKept P) {s : State} (h : P s) : P s.duplicateFound := by
  unfold State.duplicateFound
  cases s.station.state with
  | joining | sharing | solo => exact k.raise _ (k.isolate .duplicate (k.core h {}))
  | isolated | shutdown => exact k.raise _ (k.core h {})
  | left | config => exact h

/-! ## Input events -/

theorem smokeActive (k : State.AirKept P) {s : State} (h : P s) : P s.smokeActive := by
  unfold State.smokeActive
  split
  · exact k.shutdown h
  · exact h

theorem modeHears (k : State.AirKept P) {s : State} (r : InputRole) (h : P s) :
    P (s.modeHears r) := by
  unfold State.modeHears
  split
  · exact k.evaluated .plain h
  · exact h

theorem deliverInput (k : State.AirKept P) {s : State} (r : InputRole) (e : InputEvent) (h : P s) :
    P (s.deliverInput r e) := by
  cases e with
  | none => exact h
  | activated =>
    have heard := k.modeHears r (k.stageActivated r h)
    simp only [State.deliverInput]
    split
    · exact k.smokeActive heard
    · exact heard
  | deactivated =>
    have heard := k.modeHears r (k.stageDeactivated r h)
    simp only [State.deliverInput, State.smokeCleared]
    split
    · split
      · exact k.leaveShutdown heard
      · exact heard
    · exact heard
  | settled active =>
    simp only [State.deliverInput]
    split
    · exact k.smokeActive h
    · exact h

/-! ## Frames and attempts -/

theorem entryChanged (k : State.AirKept P) {s : State} (marked : Bool) (h : P s) :
    P (s.entryChanged marked) := by
  unfold State.entryChanged
  split
  · exact k.evaluated .neighbourUpdate h
  · exact h

/-- An entry written, with the ceiling and the neighbour update it brings. -/
theorem entryTaken (k : State.AirKept P) {s : State} (n : Nat) (e : Entry) (marked : Bool)
    (h : P s) : P (((s.setEntry n e).recomputeCeiling).entryChanged marked) :=
  k.entryChanged marked (k.core h ((s.setEntry_sameAir n e).trans (State.recomputeCeiling_sameAir _)))

/-- A frame of another station, completed, at the receiver and at station control. -/
theorem hearFrame (k : State.AirKept P) {s : State} (h : P s) :
    P (State.hearOther { s with link := s.link.complete }) :=
  k.returnToSharing _ (k.core h {})

theorem takeState (k : State.AirKept P) {s : State} (n : Nat) (f : StateFrame) (h : P s) :
    P (s.takeState n f) := by
  have taken := fun e marked => k.entryTaken n e marked (k.hearFrame h)
  unfold State.takeState
  dsimp only
  split
  · exact k.request false (taken _ _)
  · exact taken _ _

theorem takeLeave (k : State.AirKept P) {s : State} (n : Nat) (h : P s) : P (s.takeLeave n) := by
  unfold State.takeLeave
  dsimp only
  split
  · exact k.hearFrame h
  · exact k.entryTaken n _ _ (k.hearFrame h)

theorem takeShed (k : State.AirKept P) {s : State} (n : Nat) (call : ShedCall) (h : P s) :
    P (s.takeShed n call) := by
  have heard := k.hearFrame h
  simp only [State.takeShed, State.respondShed]
  split
  · split
    · split
      · exact k.moved _ (k.core heard (State.stopSlot_sameAir _ _))
      · exact heard
    · exact heard
  · exact heard

theorem failAttempt (k : State.AirKept P) {s : State} (w : WireFrame) (h : P s) :
    P (s.failAttempt w) := by
  unfold State.failAttempt
  dsimp only
  split
  · exact k.core h {}
  · split
    · exact k.core h {}
    · have dropped : P (State.dropReported
          { s with link := (s.link.release.endCurrent w.roll).countDrop }) :=
        k.dropReported (k.core h {})
      exact k.core dropped {}

/-! ## The wrappers -/

theorem event (k : State.AirKept P) {s : State} {occurs : Bool} {effect : State → State}
    (h : P s) (he : P (effect s)) : Gives P (s.event occurs effect) :=
  gives_ite h fun _ => k.settled s he

/-- A command that reaches neither the plant nor a law's fields. -/
theorem inner (k : State.AirKept P) {s : State} {occurs : Bool} {effect : State → State} (h : P s)
    (he : s.SameAir (effect s)) : Gives P (s.innerEvent occurs effect) :=
  gives_ite h fun _ => k.core h he

theorem quiet (k : State.AirKept P) {s : State} {occurs : Bool} {effect : State → State} (h : P s)
    (he : s.SameAir (effect s)) : Gives P (s.quietEvent occurs effect) :=
  gives_ite h fun _ => k.core (k.core h he) {}

theorem requested (k : State.AirKept P) {s : State} {handle : State → State} (h : P s)
    (hr : ∀ t : State, P t → P (handle t)) : Gives P (s.request handle) := by
  refine gives_ite h fun _ => ?_
  split
  · exact k.core h {}
  · exact hr _ (k.core h {})

theorem answered (k : State.AirKept P) {s : State} (code : Nat) (result : ServiceResult)
    (payload : List Byte) (h : P s) : P (s.answer code result payload) := k.core h {}

/-! ## The commands -/

/-- R10, R202, R205: a record is held when its 70 bytes pass. -/
theorem execConfigure (k : State.AirKept P) (record : List Byte) {s : State} (h : P s) :
    Gives P (execConfigure record s) := by
  refine k.requested h fun s h => ?_
  split
  · exact k.answered _ _ _ h
  · rename_i length
    split
    · exact k.answered _ _ _ h
    · split
      · exact k.answered _ _ _ h
      · rename_i passes
        exact k.core (k.record s record (Decidable.not_not.1 length) passes h) {}

theorem execStart (k : State.AirKept P) {s : State} (h : P s) : Gives P (execStart s) := by
  refine k.requested h fun s h => ?_
  split
  · exact k.answered _ _ _ (k.settled s (k.joined _ h))
  · exact k.answered _ _ _ h

theorem execClear (k : State.AirKept P) (set : BitVec 24) {s : State} (h : P s) :
    Gives P (execClear set s) := by
  refine k.requested h fun s h => ?_
  split
  · exact k.answered _ _ _ h
  · exact k.core (k.core h (s.clearFaults_sameAir set)) {}

theorem execUnlock (k : State.AirKept P) (code : Byte) {s : State} (h : P s) :
    Gives P (execUnlock code s) := by
  refine k.requested h fun s h => ?_
  split
  · exact k.answered _ _ _ h
  · split
    · split
      · exact k.answered _ _ _ (k.settled s (k.moved s (k.core h {})))
      · exact k.answered _ _ _ h
    · exact k.answered _ _ _ h

theorem execLeave (k : State.AirKept P) {s : State} (h : P s) : Gives P (execLeave s) := by
  refine k.requested h fun s h => ?_
  have left := k.answered 0x31 .ok [] (k.settled s (k.leave h))
  cases s.station.state with
  | sharing | isolated | solo | shutdown => exact left
  | config | joining | left => exact k.answered _ _ _ h

theorem execRollcall (k : State.AirKept P) {s : State} (h : P s) : Gives P (execRollcall s) := by
  refine k.requested h fun s h => ?_
  split
  · exact k.answered _ _ _ (k.request true h)
  · exact k.answered _ _ _ h

theorem execServiceResponseEnd (k : State.AirKept P) {s : State} (h : P s) :
    Gives P (execServiceResponseEnd s) := by
  unfold Machine.execServiceResponseEnd
  split
  · exact gives_next h
  · split
    · exact k.event h (k.restart (k.core h {}))
    · exact k.inner h {}

theorem execFanProofExpiry (k : State.AirKept P) {s : State} (h : P s) :
    Gives P (execFanProofExpiry s) := by
  refine k.event h ?_
  split
  · split
    · exact k.core h {}
    · exact k.failFanProof h
  · exact k.failFanProof h
  all_goals exact h

theorem exec (k : State.AirKept P) (c : Instr) {s : State} (h : P s) : Gives P (exec c s) := by
  unfold Machine.exec
  cases c with
  | powerUp => exact gives_next (k.core k.reset {})
  | supplyOutOfRange => exact gives_next (k.core h {})
  | restart => exact k.event h (k.restart h)
  | joinExpiry => exact k.event h (k.joinDecision (k.core h {}))
  | silenceExpiry =>
    refine k.event h ?_
    dsimp only
    split
    · exact k.isolate .silent (k.core h {})
    · exact k.core h {}
  -- Service requests
  | configure record => exact k.execConfigure record h
  | start => exact k.execStart h
  | readEntry n =>
    refine k.requested h fun s h => ?_
    split <;> exact k.answered _ _ _ h
  | readStatus | readFaults | serviceRestart => exact k.requested h fun _ h => k.core h {}
  | clear set => exact k.execClear set h
  | unlock code => exact k.execUnlock code h
  | leave => exact k.execLeave h
  | rollcall => exact k.execRollcall h
  | linkTest mask count =>
    refine k.requested h fun s h => ?_
    repeat' split
    all_goals exact k.core h {}
  | unknownRequest code payload =>
    change Gives P (execUnknownRequest code payload s)
    unfold execUnknownRequest
    split
    · exact gives_next h
    · exact k.requested h fun _ h => k.answered _ _ _ h
  | serviceResponseEnd => exact k.execServiceResponseEnd h
  -- Frames and attempts
  | stateReceived frame =>
    change Gives P (execStateReceived frame s)
    unfold execStateReceived
    split
    · exact k.event h (k.takeState _ _ h)
    · exact gives_next h
  | shedReceived frame =>
    change Gives P (execShedReceived frame s)
    unfold execShedReceived
    split
    · exact k.event h (k.takeShed _ _ h)
    · exact gives_next h
  | leaveReceived frame =>
    change Gives P (execLeaveReceived frame s)
    unfold execLeaveReceived
    split
    · exact k.event h (k.takeLeave _ h)
    · exact gives_next h
  | ownEcho frame =>
    change Gives P (execOwnEcho frame s)
    unfold execOwnEcho
    split
    · exact k.inner h {}
    · exact gives_next h
  | duplicateDetected frame =>
    change Gives P (execDuplicateDetected frame s)
    unfold execDuplicateDetected
    split
    · exact k.event h (k.duplicateFound (k.core h {}))
    · exact gives_next h
  | attemptFailed cause =>
    change Gives P (execAttemptFailed cause s)
    unfold execAttemptFailed
    split
    · exact k.event h (k.failAttempt _ h)
    · exact gives_next h
  | frameSent =>
    change Gives P (execFrameSent s)
    unfold execFrameSent
    split
    · exact k.event h (k.returnToSharing _ (k.core h {}))
    · exact gives_next h
  | attemptBegin | cutOffFrameRelease => exact k.quiet h {}
  | reportTimerExpiry =>
    exact k.inner h (.trans {} (State.requestState_still _ false).sameAir)
  -- Entries of the roof table
  | freshnessExpiry n => exact k.event h (k.entryTaken n _ _ h)
  | claimHoldExpiry n =>
    exact k.event h (k.entryChanged _ (k.core h (s.setEntry_sameAir n _)))
  -- Timers of the Admission Unit and the Mode Logic
  | settleExpiry =>
    change Gives P (execSettleExpiry s)
    unfold execSettleExpiry
    split
    · exact k.event h (k.settleClaim _ h)
    · exact gives_next h
  | changeoverExpiry | offDelayExpiry | fullOpenExpiry | damperTimerExpiry =>
    exact k.event h (k.evaluated _ (k.core h {}))
  -- Timers of the Stage Controller
  | fanProofExpiry => exact k.execFanProofExpiry h
  | proveExpiry i =>
    refine k.event h ?_
    split
    · exact k.moved s (k.core h (s.trip_sameAir i _))
    · exact k.moved s (k.core h {})
  | minRunExpiry i => exact k.event h (k.freeSlot i h)
  | minOffExpiry i | tripDelayExpiry i => exact k.event h (k.moved s (k.core h {}))
  | freezeExpiry n => exact k.event h (k.moved s (k.core h (.trans {} (State.trip_sameAir _ _ _))))
  -- Conversions and samples
  | conversionComplete code =>
    change Gives P (execConversionComplete code s)
    unfold execConversionComplete
    split
    · exact k.event h (k.complete _ code (k.core h {}))
    · exact gives_next h
  | inputSample r pinHigh =>
    have sampled : P (s.sampleInput r pinHigh) := k.deliverInput r _ (k.core h {})
    have raised := k.core (k.carried.settleStarts s sampled)
      (State.raiseInput_sameAir _ r (s.sampled r pinHigh).2)
    exact gives_ite h fun _ => k.core raised {}
  -- Events that write their own block alone
  | holdoffExpiry | shedWaitExpiry | interStageExpiry => exact k.event h (k.core h {})
  | secondsTick | requestDiscardedBusy | serviceFrameBadCrc | serviceFrameAbort | linkIdle
  | receiveAbort | frameRejected | backoffAbandoned | spacingExpiry | shedSpacingExpiry
  | pwmPeriodStart | scanTimerExpiry | frameStartCharacter | charactersAfterFrame
  | serviceStartCharacter | serviceLengthZero => exact k.inner h {}

theorem step (k : State.AirKept P) {s t : State} (h : P s) (hst : step s = .next t) : P t := by
  unfold Machine.step at hst
  split at hst
  · cases hst
    exact h
  · rename_i c rest _
    exact k.exec c (s := { s with pending := rest }) (k.core h {}) t hst

end State.AirKept

end Sys2Proof.Machine

/-! # The laws of the air, the record and the demand level (R113, R126, R129, R202, R205) -/

namespace Sys2Proof.Machine

theorem State.airLaw_iff (s : State) : s.airLaw = true ↔
    (s.mode.fan = true → s.station.state.working = true) ∧ (s.mode.fan = false → s.mode.damper = 0) := by
  unfold State.airLaw
  cases s.mode.fan <;> simp

/-- With the fan off and the damper shut the law of the air holds in every station state. -/
theorem State.airLaw_off {s : State} (fan : s.mode.fan = false) (damper : s.mode.damper = 0) :
    s.airLaw = true :=
  s.airLaw_iff.2 ⟨fun on => absurd on (by simp [fan]), fun _ => damper⟩

/-- R126, R129: the demand alone is formed in CONFIG, and the air with it elsewhere. -/
theorem State.airLaw_kept : State.AirKept (fun s => s.airLaw = true) where
  core h e := by
    rw [State.airLaw, e.fan, e.damper, e.state]
    exact h
  form s cause h := by
    by_cases config : s.station.state = .config
    · rw [State.formMode_config config]
      exact h
    · exact State.formMode_airLaw config cause
  enter _ _ state := State.formMode_airLaw state .plain
  join _ _ _ := State.airLaw_off rfl rfl
  restarted _ _ := State.airLaw_off rfl rfl
  record _ _ _ _ h := h
  reset := rfl

theorem State.recordLaw_of_config {s t : State} (config : t.config = s.config) (h : s.recordLaw) :
    t.recordLaw := by
  rw [State.recordLaw, config]
  exact h

/-- R202: a record comes from CONFIGURE alone. -/
theorem State.recordLaw_kept : State.AirKept State.recordLaw where
  core h e := State.recordLaw_of_config e.config h
  form _ _ h := State.recordLaw_of_config rfl h
  enter h config _ := State.recordLaw_of_config config h
  join _ _ h := State.recordLaw_of_config rfl h
  restarted _ h := State.recordLaw_of_config rfl h
  record _ b length passes _ := fun r hr => ⟨b, length, passes, (Option.some.inj hr).symm⟩
  reset := fun r hr => by
    have none : State.reset.config = none := rfl
    rw [none] at hr
    cases hr

/-- Settles O59: evaluations form the air, CONFIGURE the record, and no other operation reaches them. -/
theorem airAndRecordAlways : Obligations.AirAndRecordAlways := fun _ _ air record hst =>
  ⟨State.airLaw_kept.step air hst, State.recordLaw_kept.step record hst⟩

/-- R113: level 0 with side NONE. -/
def State.levelLaw (s : State) : Prop := s.mode.side = .none → s.mode.level = 0

theorem State.levelLaw_kept : State.AirKept State.levelLaw where
  core h e := by
    rw [State.levelLaw, e.side, e.level]
    exact h
  form _ _ _ := State.formMode_level_none
  enter _ _ _ := State.formMode_level_none
  join _ _ h := h
  restarted _ _ _ := rfl
  record _ _ _ _ h := h
  reset _ := rfl

end Sys2Proof.Machine

/-! # The demand at a damper timer expiry (R109 to R117, R129) -/

namespace Sys2Proof.Machine

/-! ## An event that begins with an evaluation -/

/-- An event at `s` that begins with an evaluation at `z` raises nothing and stays in the plant. -/
theorem State.evaluated_frame {s z : State} (cause : EvalCause) (start : s.stageFrame z)
    (fault : z.fault = s.fault) :
    let t := (z.evaluate cause).settleInto s
    t.fault = s.fault ∧ s.stageFrame t := by
  refine ⟨?_, State.stageFrame_trans start (State.stageFrame_trans (State.evaluate_frame z cause)
    (State.settleInto_frame _ s))⟩
  rw [State.settleInto_fault, State.evaluate_fault, fault]

/-- What such an evaluation brings about and later ones keep holds at the end of the event. -/
theorem State.Lasts.settled {s z : State} {R : ModeLogic → Prop} (k : z.Lasts R) {cause : EvalCause}
    (start : s.stageFrame z) (fault : z.fault = s.fault) (h : R (z.formMode cause)) :
    let t := (z.evaluate cause).settleInto s
    R t.mode ∧ t.fault = s.fault ∧ s.stageFrame t :=
  ⟨(k.evaluated s h).2, State.evaluated_frame cause start fault⟩

/-- R129: the damper timer loaded again. -/
def State.timed (s : State) : State := { s with mode.damperTimer := some damperPeriod }

theorem State.damperTimerExpiry_runs {s : State} (hp : s.powered = true)
    (ht : s.mode.damperTimer.isSome = true) :
    exec .damperTimerExpiry s = .next ((s.timed.evaluate .damperStep).settleInto s) := by
  change execDamperTimerExpiry s = _
  rw [execDamperTimerExpiry, State.event_runs s _ _ hp ht]
  rfl

/-! ## The demand lasts -/

/-- R109 to R117: zone, demand, calls and economizer are formed alike by every evaluation of the
event. -/
theorem State.demand_lasts {z : State} (h : z.station.state ≠ .config) :
    z.Lasts z.formed.SameDemand where
  form _ frame same := (State.formed_again frame same).trans
    (State.formMode_sameDemand (by rw [frame.station_eq]; exact h) .plain)
  load _ _ same := same.trans {}
  grant _ _ same _ := same.trans {}

theorem State.damperTimerExpiry_demand {s : State} (hp : s.powered = true)
    (ht : s.mode.damperTimer.isSome = true) (h : s.station.state ≠ .config) :
    ∃ t, exec .damperTimerExpiry s = .next t ∧ s.timed.formed.SameDemand t.mode ∧
      t.fault = s.fault ∧ s.stageFrame t :=
  ⟨_, State.damperTimerExpiry_runs hp ht, (State.demand_lasts (z := s.timed) h).settled ⟨rfl, rfl⟩ rfl
    (State.formMode_sameDemand (s := s.timed) h .damperStep)⟩

/-! ## The zone temperature (R109, R110) -/

theorem State.contributing_eq (s : State) :
    s.contributing = s.table.entries.toList.filterMap (fun e =>
      if e.state = .fresh ∧ e.mark = true then
        e.report.bind (fun r => if r.ownSensor = true then r.spaceTemp else none)
      else none) := by
  rw [State.contributing]
  congr 1
  funext e
  obtain ⟨state, report, claim, mark, freshness, hold⟩ := e
  cases state <;> cases mark <;> cases report <;> rfl

/-- R110: the mean rounded to the nearest tenth, a half upward. -/
theorem neighbourAverage_eq {temps : List Int} (h : temps ≠ []) :
    neighbourAverage temps = some ⌊(temps.sum : ℚ) / temps.length + 1 / 2⌋ := by
  have length : (temps.length : ℚ) ≠ 0 := by
    exact_mod_cast fun none => h (List.length_eq_zero_iff.1 none)
  have halves : (temps.sum : ℚ) / temps.length + 1 / 2 =
      ((2 * temps.sum + temps.length : ℤ) : ℚ) / ((2 * temps.length : ℕ) : ℚ) := by
    push_cast
    field_simp
  have average : neighbourAverage temps =
      some ((2 * temps.sum + temps.length) / (2 * temps.length)) := by
    cases temps with
    | nil => exact absurd rfl h
    | cons => rfl
  rw [average, halves, Rat.floor_intCast_div_natCast]
  push_cast
  rfl

theorem State.zoneReading_own {s : State} {v : Int} (h : s.reading .zone = some v) :
    s.zoneReading = (some v, .own) := by
  rw [State.zoneReading, h]

theorem State.zoneReading_none {s : State} (own : s.reading .zone = none)
    (temps : s.contributing = []) : s.zoneReading = (none, .none) := by
  rw [State.zoneReading, own, temps]
  dsimp only
  split
  · rename_i v hv
    split at hv <;> cases hv
  · rfl

theorem State.zoneReading_neighbours {s : State} (h : s.station.state ≠ .config)
    (own : s.reading .zone = none) (temps : s.contributing ≠ []) :
    s.zoneReading = (some ⌊(s.contributing.sum : ℚ) / s.contributing.length + 1 / 2⌋,
      .neighbours) := by
  rw [State.zoneReading, own]
  dsimp only
  rw [if_neg h, neighbourAverage_eq temps]

/-! ## Setpoints, errors and calls (R111 to R115) -/

theorem State.setpoints_eq (s : State) :
    s.coolSetpoint = s.cfg.coolSetpoint +
        (if s.accepted .occ = .inactive then s.cfg.setback else 0) ∧
      s.heatSetpoint = s.cfg.heatSetpoint -
        (if s.accepted .occ = .inactive then s.cfg.setback else 0) := by
  unfold State.coolSetpoint State.heatSetpoint State.occupied
  cases s.accepted .occ <;> simp

/-- R112: the error of the demand side. -/
theorem demandOf_error (z c h : Int) :
    (demandOf (some (z - c)) (some (h - z))).2 =
      if c < z then z - c else if z < h then h - z else 0 := by
  unfold demandOf
  simp only [sub_pos]
  split
  · rfl
  · split <;> rfl

/-- R113: the level of an error, by the hard band. -/
theorem levelOf_cases (e hardBand : Int) :
    (e < 5 → levelOf e hardBand = 0) ∧
      (5 ≤ e → e < hardBand → (levelOf e hardBand : Int) = min 6 (1 + (e - 5) / 5)) ∧
      (5 ≤ e → hardBand ≤ e → levelOf e hardBand = 7) := by
  unfold levelOf
  refine ⟨fun low => if_pos low, fun mid below => ?_, fun mid hard => ?_⟩
  · rw [if_neg (by omega), if_pos below]
    omega
  · rw [if_neg (by omega), if_neg (by omega)]

/-- R112, R113: the level formed from a zone temperature. -/
theorem State.formDemand_level {s : State} {z : Int} (h : s.zoneReading.1 = some z)
    (m : ModeLogic) : (s.formDemand m).level =
      levelOf (if s.coolSetpoint < z then z - s.coolSetpoint
        else if z < s.heatSetpoint then s.heatSetpoint - z else 0) s.cfg.hardBand := by
  rw [← demandOf_error]
  simp only [State.formDemand, State.coolError, State.heatError, h, Option.map_some]

/-- R109, R112, R113, R115: without a zone temperature there is no demand. -/
theorem State.formed_vacant {s : State} (h : s.zoneReading.1 = none) :
    s.formed.side = .none ∧ s.formed.level = 0 ∧ s.formed.cool1 = false ∧
      s.formed.cool2 = false ∧ s.formed.heat1 = false ∧ s.formed.heat2 = false := by
  simp [State.formed, State.formCalls, State.formDemand, State.coolError, State.heatError, h,
    demandOf, levelOf, callOf]

/-- R112, R115: side and calls formed from a zone temperature. -/
theorem State.formed_zone {s : State} {z : Int} (h : s.zoneReading.1 = some z) :
    s.formed.side = (if s.coolSetpoint < z then .cooling
        else if z < s.heatSetpoint then .heating else .none) ∧
      s.formed.cool1 = (if 5 ≤ z - s.coolSetpoint then true
        else if z - s.coolSetpoint ≤ 0 then false else s.mode.cool1) ∧
      s.formed.cool2 = (if 15 ≤ z - s.coolSetpoint then true
        else if z - s.coolSetpoint ≤ 8 then false else s.mode.cool2) ∧
      s.formed.heat1 = (if 5 ≤ s.heatSetpoint - z then true
        else if s.heatSetpoint - z ≤ 0 then false else s.mode.heat1) ∧
      s.formed.heat2 = (if 15 ≤ s.heatSetpoint - z then true
        else if s.heatSetpoint - z ≤ 8 then false else s.mode.heat2) := by
  rw [← demandOf_side]
  simp only [State.formed, State.formCalls, State.formDemand, State.coolError, State.heatError, h,
    Option.map_some]
  exact ⟨trivial, rfl, rfl, rfl, rfl⟩

/-! ## The economizer (R117) -/

theorem State.economizerAvailable_iff (s : State) : s.economizerAvailable = true ↔
    s.cfg.econEnable = true ∧ (s.reading .supply).isSome = true ∧
      ∃ o ∈ s.reading .outdoor, ∃ r ∈ s.reading .ret, o < s.cfg.econLimit ∧ o ≤ r - 10 := by
  unfold State.economizerAvailable
  cases s.reading .outdoor <;> cases s.reading .ret <;> cases s.reading .supply <;> simp

/-! ## The obligations -/

/-- Settles O38: the demand is formed once and lasts to the end of the event. -/
theorem zoneTemperatureAndSide : Obligations.ZoneTemperatureAndSide := by
  intro s temps c h hp ht config htemps hc hh
  obtain ⟨t, runs, same, fault, frame⟩ := State.damperTimerExpiry_demand hp ht config
  have zone : t.mode.zoneTemp = s.zoneReading.1 := same.zoneTemp
  have source : t.mode.zoneSource = s.zoneReading.2 := same.zoneSource
  rw [← s.contributing_eq] at htemps
  rw [← s.setpoints_eq.1] at hc
  rw [← s.setpoints_eq.2] at hh
  subst htemps hc hh
  refine ⟨t, runs, fun v own => ?_, fun own none => ?_, fun own some => ?_, fun z hz => ?_, ?_,
    same.damperTimer, fault, frame⟩
  · rw [zone, source, State.zoneReading_own own]
    exact ⟨rfl, rfl⟩
  · have reading := State.zoneReading_none own none
    obtain ⟨side, level, cool1, cool2, heat1, heat2⟩ :=
      State.formed_vacant (s := s.timed) (congrArg Prod.fst reading)
    rw [zone, source, reading, same.side, same.level, same.cool1, same.cool2, same.heat1,
      same.heat2]
    exact ⟨rfl, rfl, side, level, cool1, cool2, heat1, heat2⟩
  · rw [zone, source, State.zoneReading_neighbours config own some]
    exact ⟨rfl, rfl⟩
  · rw [zone] at hz
    rw [same.side, same.cool1, same.cool2, same.heat1, same.heat2]
    exact State.formed_zone (s := s.timed) hz
  · rw [same.econAvailable]
    exact s.timed.economizerAvailable_iff

/-- Settles O39: R113's table at every evaluation, which a damper timer expiry begins with, and the law
of side NONE as one that every command keeps. -/
theorem demandLevelOfTheError : Obligations.DemandLevelOfTheError := by
  refine ⟨fun s z e hp ht config hz he => ?_, fun s cause e he => ?_, fun s hp ht config hz => ?_,
    fun s t law hst => State.levelLaw_kept.step law hst, rfl, rfl⟩
  · obtain ⟨t, runs, same, -, -⟩ := State.damperTimerExpiry_demand hp ht config
    have level : t.mode.level = levelOf e s.cfg.hardBand := by
      rw [same.level, he]
      exact State.formDemand_level (s := s.timed) hz _
    obtain ⟨low, mid, high⟩ := levelOf_cases e s.cfg.hardBand
    refine ⟨t, runs, fun h => level.trans (low h), fun h k => ?_, fun h k => level.trans (high h k),
      fun side => ?_⟩
    · rw [level]
      exact mid h k
    · rw [same.level]
      exact levelOf_none _ (same.side.symm.trans side)
  · have level : (s.formMode cause).level = levelOf e s.cfg.hardBand := by
      rw [(s.formMode_level cause).2, he]
      cases hz : s.zoneReading.1 with
      | none => exact (State.formed_vacant hz).2.1
      | some z => exact State.formDemand_level hz _
    obtain ⟨low, mid, high⟩ := levelOf_cases e s.cfg.hardBand
    exact ⟨fun h => level.trans (low h), fun h k => by rw [level]; exact mid h k,
      fun h k => level.trans (high h k), State.formMode_level_none⟩
  · obtain ⟨t, runs, same, -, -⟩ := State.damperTimerExpiry_demand hp ht config
    obtain ⟨side, level, -⟩ := State.formed_vacant (s := s.timed) hz
    exact ⟨t, runs, same.side.trans side, same.level.trans level⟩

end Sys2Proof.Machine

/-! # The damper step at a damper timer expiry (R128, R129) -/

namespace Sys2Proof.Machine

/-! ## What the formations before the fan leave of the air -/

theorem State.yieldEnd_damper (s : State) (m : ModeLogic) : (s.yieldEnd m).damper = m.damper := by
  unfold State.yieldEnd
  repeat' split
  all_goals rfl

theorem State.formUnitMode_damper (s : State) (m : ModeLogic) :
    (s.formUnitMode m).damper = m.damper := by
  unfold State.formUnitMode
  repeat' split
  all_goals rfl

theorem State.aimed_damper (s : State) : s.aimed.damper = s.mode.damper :=
  (s.formUnitMode_damper _).trans (s.yieldEnd_damper _)

/-- R129: between the damper's steps the command stands, but for 0 with the fan off. -/
theorem State.formMode_damper {s : State} (h : s.station.state ≠ .config) :
    (s.formMode .plain).damper = if (s.formMode .plain).fan then s.mode.damper else 0 := by
  rw [State.formMode_plain h]
  show (if _ then (s.formFan .plain s.aimed).name.damper else 0) = _
  rw [ModeLogic.name_eq, State.formFan_eq, ← s.aimed_damper]
  rfl

/-- R126, R127: a plain evaluation of a working state does not turn the fan off. -/
theorem State.formMode_fan {s : State} (h : s.station.state.working = true)
    (fan : s.mode.fan = true) : (s.formMode .plain).fan = true := by
  have aimed : s.aimed.fan = true := s.aimed_sameCalls.fan.trans fan
  rw [State.formMode_eq (State.working_not_config h)]
  show (s.formFan .plain s.aimed).fan = true
  rw [State.formFan, if_pos h]
  split
  · rfl
  · rw [if_neg nofun, aimed]

/-! ## Timers that the formations before the fan pass on -/

/-- The off-delay and damper timers set. -/
def ModeLogic.withTimers (m : ModeLogic) (offDelay damperTimer : Timer) : ModeLogic :=
  { m with offDelay := offDelay, damperTimer := damperTimer }

theorem State.yieldEnd_withTimers (s : State) (m : ModeLogic) (x y : Timer) :
    s.yieldEnd (m.withTimers x y) = (s.yieldEnd m).withTimers x y := by
  have hold : (m.withTimers x y).yieldHold = m.yieldHold := rfl
  cases h : m.yieldHold with
  | none => simp only [State.yieldEnd, hold, h]
  | some d =>
    have call : (m.withTimers x y).firstCall d = m.firstCall d := by cases d <;> rfl
    have level : (m.withTimers x y).level = m.level := rfl
    simp only [State.yieldEnd, hold, h, call, level]
    split
    · split <;> rfl
    · rfl

theorem State.formUnitMode_withTimers (s : State) (m : ModeLogic) (x y : Timer) :
    s.formUnitMode (m.withTimers x y) = (s.formUnitMode m).withTimers x y := by
  have entry : s.econEntry (m.withTimers x y) = s.econEntry m := rfl
  have spent : s.econSpent (m.withTimers x y) = s.econSpent m := rfl
  have mode : (m.withTimers x y).mode = m.mode := rfl
  have cool1 : (m.withTimers x y).cool1 = m.cool1 := rfl
  have heat1 : (m.withTimers x y).heat1 = m.heat1 := rfl
  have available : (m.withTimers x y).econAvailable = m.econAvailable := rfl
  simp only [State.formUnitMode, entry, spent, mode, cool1, heat1, available]
  split
  · split
    · split
      · rfl
      · split <;> rfl
    all_goals split <;> rfl
  · rfl

theorem State.aimOf_withTimers (s : State) (m : ModeLogic) (x y : Timer) :
    s.aimOf (m.withTimers x y) = (s.aimOf m).withTimers x y := by
  have formed : s.formedOf (m.withTimers x y) = (s.formedOf m).withTimers x y := rfl
  rw [State.aimOf, formed, State.yieldEnd_withTimers, State.formUnitMode_withTimers]
  rfl

/-! ## What the air is formed from -/

/-- R128: the target depends on the plant no more than on the channels, the inputs and the record. -/
theorem State.stageFrame.targetOf {s t : State} (frame : s.stageFrame t) (m : ModeLogic) :
    t.targetOf m = s.targetOf m := by
  have cfg : t.cfg = s.cfg := State.cfg_congr frame.config_eq
  have reading : t.reading .supply = s.reading .supply := by
    rw [State.reading, State.sensor, frame.scan_eq]
    rfl
  have occupied : t.occupied = s.occupied := by
    rw [State.occupied, State.accepted, State.input, frame.inputs_eq]
    rfl
  simp only [State.targetOf, cfg, reading, occupied]

/-- R128: an evaluation leaves the target of the mode it forms. -/
theorem State.formMode_target {s : State} (h : s.station.state ≠ .config) :
    (s.formMode .plain).damperTarget = s.targetOf (s.formMode .plain) := by
  rw [State.formMode_plain h]
  rfl

/-- R120, R121: an evaluation that leaves ECON has the economizer available. -/
theorem State.formMode_econ {s : State} (h : s.station.state ≠ .config)
    (econ : (s.formMode .plain).mode = .econ) :
    s.station.state.working = true ∧ s.Stands s.aimed := by
  have aimed : s.aimed.mode = .econ := (State.formMode_finishes h).econ.1 econ
  by_cases working : s.station.state.working = true
  · have formed := s.formUnitMode_formed working (s.yieldEnd s.formed)
    exact ⟨working, formed.econ, formed.cool, formed.heat⟩
  · change (s.formUnitMode _).mode = .econ at aimed
    rw [State.formUnitMode, if_neg working] at aimed
    cases aimed

theorem State.formMode_econ_available {s : State} (h : s.station.state ≠ .config)
    (econ : (s.formMode .plain).mode = .econ) : s.economizerAvailable = true := by
  have stands := (State.formMode_econ h econ).2
  have available : s.aimed.econAvailable = s.economizerAvailable :=
    (s.aimFor_aimed (cause := .plain) nofun) ▸ (s.aimFor_sameDemand .plain).econAvailable
  rw [← available]
  exact (stands.econ ((State.formMode_finishes h).econ.1 econ)).2.1

/-! ## The damper at the end of the event -/

/-- R129: the fan and the target of the evaluation do not depend on the damper's timer. -/
theorem State.timed_formMode {s : State} (h : s.station.state ≠ .config) :
    (s.timed.formMode .plain).fan = (s.formMode .plain).fan ∧
      (s.timed.formMode .plain).damperTarget = (s.formMode .plain).damperTarget := by
  have aimed : s.timed.aimed = { s.aimed with damperTimer := some damperPeriod } := by
    have offDelay : s.aimed.offDelay = s.mode.offDelay := s.aimed_sameCalls.offDelay
    calc s.timed.aimed = s.aimOf (s.mode.withTimers s.mode.offDelay (some damperPeriod)) := rfl
      _ = s.aimed.withTimers s.mode.offDelay (some damperPeriod) := s.aimOf_withTimers _ _ _
      _ = { s.aimed with damperTimer := some damperPeriod } := by rw [← offDelay]; rfl
  have fan : s.timed.formFan .plain s.timed.aimed =
      { s.formFan .plain s.aimed with damperTimer := some damperPeriod } := by
    have demand : s.timed.fanDemand s.timed.aimed = s.fanDemand s.aimed := by
      rw [aimed]
      rfl
    have working : s.timed.station = s.station := rfl
    simp only [State.formFan, demand, working]
    rw [aimed]
    repeat' split
    all_goals rfl
  have named (m : ModeLogic) : ({ m with damperTimer := some damperPeriod } : ModeLogic).name =
      { m.name with damperTimer := some damperPeriod } := by
    unfold ModeLogic.name
    dsimp only
    split <;> rfl
  rw [State.formMode_plain h, State.formMode_plain (s := s.timed) h, fan, named]
  exact ⟨rfl, rfl⟩

/-- The air of an event: with the fan demanded at first the fan stays on and the command stands; else
the command is 0. -/
structure ModeLogic.Stepped (fan : Bool) (command : Nat) (m : ModeLogic) : Prop where
  on : fan = true → m.fan = true ∧ m.damper = command
  off : fan = false → m.damper = 0

theorem State.stepped_lasts {z : State} {fan : Bool} {command : Nat}
    (h : z.station.state ≠ .config) (working : fan = true → z.station.state.working = true) :
    z.Lasts (ModeLogic.Stepped fan command) where
  form t frame stepped := by
    have damper := State.formMode_damper (s := t) (by rw [frame.station_eq]; exact h)
    refine ⟨fun on => ?_, fun off => ?_⟩
    · obtain ⟨fanOn, command⟩ := stepped.on on
      have fanOn := State.formMode_fan (by rw [frame.station_eq]; exact working on) fanOn
      rw [fanOn, if_pos rfl] at damper
      exact ⟨fanOn, damper.trans command⟩
    · rw [damper, stepped.off off]
      exact ite_self 0
  load _ _ stepped := ⟨stepped.on, stepped.off⟩
  grant _ _ stepped _ := ⟨stepped.on, stepped.off⟩

/-- R128: the target as an evaluation leaves it, and ECON with the economizer alone. -/
structure State.AimedAt (z : State) (m : ModeLogic) : Prop where
  target : m.damperTarget = z.targetOf m
  econ : m.mode = .econ → z.economizerAvailable = true

theorem State.formMode_aimedAt {z t : State} (h : z.station.state ≠ .config)
    (frame : z.stageFrame t) : z.AimedAt (t.formMode .plain) := by
  have outside : t.station.state ≠ .config := by rw [frame.station_eq]; exact h
  have available : t.economizerAvailable = z.economizerAvailable :=
    congrArg ModeLogic.econAvailable (frame.formedOf z.mode)
  exact ⟨(State.formMode_target outside).trans (frame.targetOf _), fun econ =>
    available.symm.trans (State.formMode_econ_available outside econ)⟩

theorem State.formMode_working {s : State} (h : s.station.state ≠ .config)
    (fan : (s.formMode .plain).fan = true) : s.station.state.working = true := by
  rw [State.formMode_plain h] at fan
  exact State.formFan_working ((ModeLogic.name_fan _).symm.trans fan)

/-- R129: the first evaluation steps the damper. -/
theorem State.timed_stepped {s : State} (h : s.station.state ≠ .config) :
    (s.timed.formMode .damperStep).Stepped (s.formMode .plain).fan
      (damperToward s.mode.damper (s.formMode .plain).damperTarget) := by
  obtain ⟨fan, target⟩ := State.timed_formMode h
  have damper : (s.timed.formMode .plain).damper = if _ then s.mode.damper else 0 :=
    State.formMode_damper (s := s.timed) h
  have noTarget : (s.formMode .plain).fan = false → (s.formMode .plain).damperTarget = 0 :=
    fun off => by rw [State.formMode_target h, State.targetOf, off]; rfl
  rw [State.formMode_damperStep (s := s.timed) h]
  refine ⟨fun on => ⟨fan.trans on, ?_⟩, fun off => ?_⟩
  · rw [ModeLogic.damperStep_damper, damper, target, fan, on]
    rfl
  · rw [ModeLogic.damperStep_damper, damper, target, fan, noTarget off, off]
    rfl

theorem State.blind_dmp (d : Nat) : State.Blind (fun t => t.pins.dmp = d) where
  plant _ _ _ _ h := h
  request t roll h := by rw [t.requestState_pins roll, h]
  shed t call h := by rw [t.requestShed_pins call, h]

theorem State.settleInto_dmp (s before : State) :
    (s.settleInto before).pins.dmp = s.pins.dmp :=
  State.settleStarts_keeps (State.blind_dmp s.pins.dmp).keepsStarts s before rfl

theorem State.evaluate_dmp (s : State) (cause : EvalCause) :
    (s.evaluate cause).pins.dmp = s.pins.dmp :=
  State.evaluate_keeps (State.blind_dmp s.pins.dmp).keeps s cause rfl

/-- R128, R129: demand, air and target at the end of a damper timer expiry. -/
theorem State.damperTimerExpiry_air {s : State} (hp : s.powered = true)
    (ht : s.mode.damperTimer.isSome = true) (h : s.station.state ≠ .config) :
    ∃ t, exec .damperTimerExpiry s = .next t ∧ s.timed.formed.SameDemand t.mode ∧
      t.mode.Stepped (s.formMode .plain).fan
        (damperToward s.mode.damper (s.formMode .plain).damperTarget) ∧
      s.timed.AimedAt t.mode ∧ t.pins.dmp = s.pins.dmp ∧ s.stageFrame t := by
  have lasts := (State.demand_lasts (z := s.timed) h).and (State.stepped_lasts (z := s.timed)
    (command := damperToward s.mode.damper (s.formMode .plain).damperTarget) h
    (State.formMode_working (s := s) h))
  have carried := lasts.carriedForming fun t frame _ =>
    State.formMode_aimedAt (z := s.timed) h frame
  have aimed : s.timed.AimedAt (s.timed.formMode .damperStep) := by
    have plain := State.formMode_aimedAt (z := s.timed) h ⟨rfl, rfl⟩
    rw [State.formMode_damperStep (s := s.timed) h]
    exact ⟨plain.target, plain.econ⟩
  obtain ⟨frame, ⟨same, stepped⟩, aimed⟩ := carried.settleInto s (carried.evaluate ⟨⟨rfl, rfl⟩,
    ⟨State.formMode_sameDemand (s := s.timed) h .damperStep, State.timed_stepped h⟩, aimed⟩)
  exact ⟨_, State.damperTimerExpiry_runs hp ht, same, stepped, aimed,
    (State.settleInto_dmp _ s).trans (s.timed.evaluate_dmp .damperStep),
    State.stageFrame_trans ⟨rfl, rfl⟩ frame⟩

/-! ## The obligation -/

/-- R128: the economizer law as a clamped integer. -/
theorem damperLaw_cast (cfg : ConfigRecord) (supply : Int) :
    (damperLaw cfg supply : Int) = max (cfg.damperMin : Int)
      (min 1000 ((cfg.damperMin : Int) + ((supply - cfg.satTarget) * cfg.gain).tdiv 10)) :=
  Int.toNat_of_nonneg (le_max_of_le_left (Int.natCast_nonneg _))

/-- R128: the target of a mode on the economizer, with the supply reading that makes it available. -/
theorem State.targetOf_econ {s : State} {m : ModeLogic} (fan : m.fan = true)
    (econ : m.mode = .econ ∨ (m.mode = .cool ∧ m.econAvailable = true))
    (available : s.economizerAvailable = true) :
    ∃ v, s.reading .supply = some v ∧ s.targetOf m = damperLaw s.cfg v := by
  obtain ⟨-, supply, -⟩ := s.economizerAvailable_iff.1 available
  obtain ⟨v, hv⟩ := Option.isSome_iff_exists.1 supply
  exact ⟨v, hv, by rw [State.targetOf, if_pos fan, if_pos econ, hv]; rfl⟩

theorem State.targetOf_plain {s : State} {m : ModeLogic} (fan : m.fan = true)
    (h : ¬(m.mode = .econ ∨ (m.mode = .cool ∧ m.econAvailable = true))) :
    s.targetOf m = if s.accepted .occ = .inactive then 0 else s.cfg.damperMin := by
  rw [State.targetOf, if_pos fan, if_neg h, State.occupied]
  cases s.accepted .occ <;> rfl

/-- Settles O40: the event's first evaluation steps the damper, and those that follow keep the command
and form the target anew. -/
theorem damperStepsTowardItsTarget : Obligations.DamperStepsTowardItsTarget := by
  intro s hp ht config
  obtain ⟨t, runs, same, stepped, aimed, dmp, frame⟩ := State.damperTimerExpiry_air hp ht config
  refine ⟨t, runs, fun on => (stepped.on on).2, stepped.off, fun off => ?_, fun on econ => ?_,
    fun on plain => aimed.target.trans (State.targetOf_plain (s := s.timed) on plain),
    same.damperTimer, dmp, frame⟩
  · rw [aimed.target, State.targetOf, off]
    rfl
  · have available : s.timed.economizerAvailable = true :=
      econ.elim aimed.econ fun cool => same.econAvailable.symm.trans cool.2
    obtain ⟨v, supply, target⟩ := State.targetOf_econ on econ available
    refine ⟨v, supply, ?_⟩
    rw [aimed.target, target]
    exact damperLaw_cast s.cfg v

end Sys2Proof.Machine

/-! # The off-delay expiry (R126, R127) -/

namespace Sys2Proof.Machine

/-! ## The event -/

/-- R127: the off-delay timer stopped. -/
def State.undelayed (s : State) : State := { s with mode.offDelay := none }

theorem State.offDelayExpiry_runs {s : State} (hp : s.powered = true)
    (ht : s.mode.offDelay.isSome = true) :
    exec .offDelayExpiry s = .next ((s.undelayed.evaluate .offDelayExpiry).settleInto s) := by
  change execOffDelayExpiry s = _
  rw [execOffDelayExpiry, State.event_runs s _ _ hp ht]
  rfl

/-- The mode and its counts do not depend on the off-delay timer. -/
theorem State.undelayed_aimed (s : State) :
    s.undelayed.aimed = s.aimed.withTimers none s.mode.damperTimer :=
  s.aimOf_withTimers s.mode none s.mode.damperTimer

/-! ## The fan stays on while the station is occupied -/

/-- R126: an occupied station demands the fan, whatever brings the evaluation. -/
theorem State.formFan_occupied {s : State} (working : s.station.state.working = true)
    (occupied : s.occupied = true) (cause : EvalCause) (m : ModeLogic) :
    s.formFan cause m = { m with fan := true, offDelay := none } := by
  rw [State.formFan, if_pos working, if_pos (by simp [State.fanDemand, occupied])]

theorem State.formMode_held {s : State} (working : s.station.state.working = true)
    (occupied : s.occupied = true) :
    (s.formMode .offDelayExpiry).fan = true ∧ (s.formMode .offDelayExpiry).offDelay = none := by
  rw [State.formMode_air (State.working_not_config working), if_neg nofun, State.airFor,
    s.formFan_occupied working occupied, ModeLogic.name_eq]
  exact ⟨rfl, rfl⟩

/-- What every evaluation forms anew lasts. -/
theorem State.Forms.lasts {z : State} {R : ModeLogic → Prop} (k : z.Forms R) : z.Lasts R where
  form t frame _ := k.form t frame
  load m d h := k.changeover m d h
  grant t d h _ := k.grant t.mode d.mode h

/-! ## The fan goes off without a demand -/

/-- R126: nothing wanted and not ECON. -/
structure ModeLogic.Resting (m : ModeLogic) : Prop where
  cool : m.wantedCool = 0
  heat : m.wantedHeat = 0
  econ : m.mode ≠ .econ

/-- R126: a vacant station at rest demands no fan. -/
theorem State.fanDemand_resting {s : State} {m : ModeLogic} (vacant : s.occupied = false)
    (quiet : s.Quiet) (rest : m.Resting) : s.fanDemand m = false := by
  simp [State.fanDemand, vacant, rest.cool, rest.heat, quiet.needsNoFan, rest.econ]

/-- R127: the off-delay's evaluation of a station at rest turns the fan off. -/
theorem State.formFan_resting {s : State} {m : ModeLogic} (working : s.station.state.working = true)
    (vacant : s.occupied = false) (quiet : s.Quiet) (rest : m.Resting) (stopped : m.offDelay = none) :
    s.formFan .offDelayExpiry m = { m with fan := false, offDelay := none } := by
  have demand := State.fanDemand_resting vacant quiet rest
  rw [State.formFan, if_pos working, if_neg (by simp [demand])]
  split
  · rfl
  · rename_i off
    rw [← Bool.eq_false_iff.2 off, ← stopped]

theorem ModeLogic.name_off {m : ModeLogic} (off : m.fan = false) :
    m.name.mode = if m.mode.side = none then .off else m.mode := by
  unfold ModeLogic.name
  cases side : m.mode.side <;> simp [off]

/-- R118, R127, R128: a station at rest after its off-delay. -/
theorem State.formMode_resting {s : State} (working : s.station.state.working = true)
    (vacant : s.occupied = false) (quiet : s.Quiet) (rest : s.aimed.Resting) :
    let m := s.undelayed.formMode .offDelayExpiry
    m.fan = false ∧ m.offDelay = none ∧ m.damper = 0 ∧ m.damperTarget = 0 ∧ m.wantedCool = 0 ∧
      m.wantedHeat = 0 ∧ m.mode = if s.aimed.mode.side = none then .off else s.aimed.mode := by
  have aim : s.undelayed.aimFor .offDelayExpiry = s.aimed.withTimers none s.mode.damperTimer :=
    (State.aimFor_aimed (cause := .offDelayExpiry) nofun).trans s.undelayed_aimed
  have fan := State.formFan_resting (s := s.undelayed) working vacant quiet
    (m := s.aimed.withTimers none s.mode.damperTimer) ⟨rest.cool, rest.heat, rest.econ⟩ rfl
  have air : s.undelayed.formMode .offDelayExpiry = s.undelayed.airFor .offDelayExpiry :=
    (State.formMode_air (State.working_not_config (s := s.undelayed) working) _).trans
      (if_neg nofun)
  have off : (s.undelayed.airFor .offDelayExpiry).fan = false := by
    rw [State.airFor_fan, aim, fan]
  have damper := State.airFor_off off
  rw [air]
  refine ⟨off, ?_, damper.2, damper.1, ?_⟩
  all_goals rw [State.airFor, aim, fan]
  · rw [ModeLogic.name_eq]
    rfl
  · refine ⟨?_, ?_, ?_⟩
    · rw [ModeLogic.name_eq]
      exact rest.cool
    · rw [ModeLogic.name_eq]
      exact rest.heat
    · exact ModeLogic.name_off rfl

/-- R126, R138: a fan turned off resets the fan proof. -/
theorem State.evaluateOnce_fanOff {s : State} {cause : EvalCause} (on : s.mode.fan = true)
    (off : (s.formMode cause).fan = false) :
    (s.evaluateOnce cause).stage =
      { s.stage with fanProof := .idle, fanProofTimer := none } := by
  have demand (s : State) (b : ModeLogic) : (s.handDemand b).stage = s.stage ∧
      (s.handDemand b).mode = s.mode := by
    unfold State.handDemand; split <;> exact ⟨rfl, rfl⟩
  have fan (s : State) (b : ModeLogic) (was : b.fan = true) (is : s.mode.fan = false) :
      (s.handFan b).stage = { s.stage with fanProof := .idle, fanProofTimer := none } := by
    rw [State.handFan, if_neg (by simp [was, is]), is]
    rfl
  have report (s : State) (b : ModeLogic) : (s.handReport b).stage = s.stage := by
    unfold State.handReport; split <;> simp
  rw [State.evaluateOnce, report, fan _ _ on, (demand _ _).1]
  rw [(demand _ _).2]
  exact off

/-- An evaluation of a quiet plant that wants no stage brings no stop and no start. -/
theorem State.evaluate_unwanted {s : State} {cause : EvalCause} (before : State) (quiet : s.Quiet)
    (cool : (s.formMode cause).wantedCool = 0) (heat : (s.formMode cause).wantedHeat = 0) :
    let t := (s.evaluate cause).settleInto before
    t.mode = s.formMode cause ∧
      t.stage = { (s.evaluateOnce cause).stage with presented := t.stage.presented } := by
  have mode := s.evaluateOnce_mode cause
  rw [State.evaluate_idle cause fun i => State.not_runFree (quiet i).1]
  have unselected (i : Slot) : (s.evaluateOnce cause).selectable i = false := by
    have wanted : (s.evaluateOnce cause).wanted (sideOf i) = 0 := by
      cases sideOf i with
      | cooling => exact (congrArg ModeLogic.wantedCool mode).trans cool
      | heating => exact (congrArg ModeLogic.wantedHeat mode).trans heat
    rw [State.selectable, wanted]
    simp
  have passes : (s.evaluateOnce cause).select.takeRequest = (s.evaluateOnce cause).select := by
    rw [State.takeRequest, State.select_unselected unselected]
  obtain ⟨-, kept, stage⟩ := State.settleInto_passes before passes
  exact ⟨kept.trans mode, stage⟩

/-- R118, R126, R127: the end of the off-delay of a vacant station at rest. -/
theorem State.offDelayExpiry_resting {s : State} (hp : s.powered = true)
    (ht : s.mode.offDelay.isSome = true) (working : s.station.state.working = true)
    (vacant : s.occupied = false) (quiet : s.Quiet) (rest : s.aimed.Resting) :
    ∃ t, exec .offDelayExpiry s = .next t ∧ t.mode = s.undelayed.formMode .offDelayExpiry ∧
      t.pins.fan = false ∧
      (s.mode.fan = true → t.stage.fanProof = .idle ∧ t.stage.fanProofTimer = none) ∧
      t.fault = s.fault ∧ s.stageFrame t := by
  obtain ⟨off, -, -, -, cool, heat, -⟩ := State.formMode_resting working vacant quiet rest
  obtain ⟨mode, stage⟩ := State.evaluate_unwanted (s := s.undelayed) s quiet cool heat
  refine ⟨_, State.offDelayExpiry_runs hp ht, mode, ?_, fun on => ?_,
    State.evaluated_frame (s := s) .offDelayExpiry ⟨rfl, rfl⟩ rfl⟩
  · rw [State.settleInto_fanPin, mode, off]
  · rw [stage, State.evaluateOnce_fanOff (s := s.undelayed) on off]
    exact ⟨rfl, rfl⟩

/-! ## When a vacant station is at rest -/

/-- R116: without calls no stage is wanted. -/
theorem State.aimed_uncalled {s : State} (working : s.station.state.working = true)
    (quiet : s.Quiet) (calls : s.formed.cool1 = false ∧ s.formed.cool2 = false ∧
      s.formed.heat1 = false ∧ s.formed.heat2 = false) :
    s.aimed.Resting ∧ s.aimed.mode.side = none := by
  obtain ⟨cool1, cool2, heat1, heat2⟩ := calls
  have same := (s.yieldEnd_sameCalls s.formed).trans (s.formUnitMode_sameCalls _)
  have stands := s.formUnitMode_formed working (s.yieldEnd s.formed)
  have idle (d : Side) : s.runningCount d = 0 := by
    simp [State.runningCount, (quiet _).1]
  have off : s.aimed.mode.side = none := by
    change (s.formUnitMode (s.yieldEnd s.formed)).mode.side = none
    have econ := stands.econ
    have cool := stands.cool
    have heat := stands.heat
    rw [same.cool1, cool1] at econ cool
    rw [same.heat1, heat1] at heat
    cases mode : (s.formUnitMode (s.yieldEnd s.formed)).mode with
    | off | vent => rfl
    | econ => cases (econ mode).1
    | cool => exact absurd (cool mode) (by simp [idle])
    | heat => exact absurd (heat mode) (by simp [idle])
  refine ⟨⟨?_, ?_, fun econ => ?_⟩, off⟩
  · change s.wantedOf _ .cooling _ _ = 0
    rw [same.cool1, same.cool2, cool1, cool2, State.wantedOf_none]
  · change s.wantedOf _ .heating _ _ = 0
    rw [same.heat1, same.heat2, heat1, heat2, State.wantedOf_none]
  · rw [econ] at off
    cases off

/-- R116, R118: what a plain evaluation wants, and the side of its mode, tell whether the plant is at
rest. -/
theorem State.aimed_of_formMode {s : State} (h : s.station.state ≠ .config)
    (cool : (s.formMode .plain).wantedCool = 0) (heat : (s.formMode .plain).wantedHeat = 0)
    (econ : (s.formMode .plain).mode ≠ .econ) : s.aimed.Resting := by
  have finished := State.formMode_finishes h
  refine ⟨?_, ?_, fun aimed => econ (finished.econ.2 aimed)⟩
  · rw [finished.kept] at cool
    exact cool
  · rw [finished.kept] at heat
    exact heat

/-- The name of a mode is on the side of the mode. -/
theorem ModeLogic.name_side (m : ModeLogic) : m.name.mode.side = m.mode.side := by
  unfold ModeLogic.name
  cases side : m.mode.side with
  | some d => exact side
  | none => cases m.fan <;> rfl

theorem ModeLogic.name_sided {m : ModeLogic} (h : m.mode.side ≠ none) : m.name.mode = m.mode := by
  unfold ModeLogic.name
  cases side : m.mode.side with
  | some d => rfl
  | none => exact absurd side h

theorem State.formMode_named {s : State} (h : s.station.state ≠ .config) :
    (s.formMode .plain).mode.side = s.aimed.mode.side ∧
      (s.aimed.mode.side ≠ none → (s.formMode .plain).mode = s.aimed.mode) := by
  have mode : (s.formMode .plain).mode = (s.formFan .plain s.aimed).name.mode := by
    rw [State.formMode_plain h]
    rfl
  have aimed : (s.formFan .plain s.aimed).mode = s.aimed.mode := by rw [State.formFan_eq]
  rw [mode, ← aimed]
  exact ⟨ModeLogic.name_side _, ModeLogic.name_sided⟩

/-! ## The obligation -/

theorem State.offDelayExpiry_uncalled {s : State} (hp : s.powered = true)
    (ht : s.mode.offDelay.isSome = true) (working : s.station.state.working = true)
    (vacant : s.occupied = false) (quiet : s.Quiet)
    (cool : ∀ z ∈ s.zoneReading.1, z ≤ s.coolSetpoint)
    (heat : ∀ z ∈ s.zoneReading.1, s.heatSetpoint ≤ z) :
    ∃ t, exec .offDelayExpiry s = .next t ∧
      t.mode.fan = false ∧ t.mode.offDelay = none ∧ t.mode.mode = .off ∧ t.mode.wantedCool = 0 ∧
      t.mode.wantedHeat = 0 ∧ t.mode.damper = 0 ∧ t.mode.damperTarget = 0 ∧ t.pins.fan = false ∧
      (s.mode.fan = true → t.stage.fanProof = .idle ∧ t.stage.fanProofTimer = none) ∧
      t.fault = s.fault ∧ s.stageFrame t := by
  obtain ⟨rest, off⟩ := State.aimed_uncalled working quiet (State.formed_satisfied cool heat)
  obtain ⟨t, runs, mode, pin, proof, fault, frame⟩ :=
    State.offDelayExpiry_resting hp ht working vacant quiet rest
  obtain ⟨fan, offDelay, damper, target, wantedCool, wantedHeat, unit⟩ :=
    State.formMode_resting working vacant quiet rest
  rw [if_pos off] at unit
  rw [← mode] at fan offDelay damper target wantedCool wantedHeat unit
  exact ⟨t, runs, fan, offDelay, unit, wantedCool, wantedHeat, damper, target, pin, proof, fault,
    frame⟩

theorem State.offDelayExpiry_occupied {s : State} (hp : s.powered = true)
    (ht : s.mode.offDelay.isSome = true) (working : s.station.state.working = true)
    (occupied : s.occupied = true) :
    ∃ t, exec .offDelayExpiry s = .next t ∧ t.mode.fan = true ∧ t.mode.offDelay = none ∧
      t.pins.fan = true ∧ t.fault = s.fault ∧ s.stageFrame t := by
  have forms : s.undelayed.Forms _ := State.fan_forms working occupied
  have held := State.formMode_held (s := s.undelayed) working occupied
  obtain ⟨⟨fan, offDelay⟩, fault, frame⟩ :=
    State.Lasts.settled (s := s) forms.lasts ⟨rfl, rfl⟩ rfl held
  exact ⟨_, State.offDelayExpiry_runs hp ht, fan, offDelay, (State.settleInto_fanPin _ s).trans fan,
    fault, frame⟩

/-- Settles O42: a vacant quiet station at rest turns its fan off with nothing to stop or to start; an
occupied one forms the fan on in every evaluation of the event. -/
theorem offDelayTurnsTheFanOff : Obligations.OffDelayTurnsTheFanOff := by
  refine ⟨fun s hp ht working vacant none quiet => ?_, fun s hp ht working occupied => ?_,
    fun s z hp ht working vacant zone heat cool quiet => ?_,
    fun s hp ht working vacant cool heat econ quiet => ?_⟩
  · obtain ⟨t, runs, fan, offDelay, unit, -, -, damper, target, pin, proof, fault, frame⟩ :=
      State.offDelayExpiry_uncalled hp ht working vacant quiet (by simp [none]) (by simp [none])
    exact ⟨t, runs, fan, offDelay, unit, damper, target, pin, proof, fault, frame⟩
  · exact State.offDelayExpiry_occupied hp ht working occupied
  · obtain ⟨t, runs, fan, offDelay, unit, wantedCool, wantedHeat, damper, target, pin, -, fault,
      frame⟩ := State.offDelayExpiry_uncalled hp ht working vacant quiet
        (by simpa [zone] using cool) (by simpa [zone] using heat)
    exact ⟨t, runs, fan, offDelay, unit, wantedCool, wantedHeat, damper, target, pin, fault, frame⟩
  · have outside := State.working_not_config working
    have rest := State.aimed_of_formMode outside cool heat econ
    obtain ⟨t, runs, mode, pin, -, fault, frame⟩ :=
      State.offDelayExpiry_resting hp ht working vacant quiet rest
    obtain ⟨fan, offDelay, damper, -, -, -, unit⟩ :=
      State.formMode_resting working vacant quiet rest
    rw [← mode] at fan offDelay damper unit
    refine ⟨t, runs, fan, offDelay, damper, unit.trans ?_, pin, fault, frame⟩
    obtain ⟨side, same⟩ := State.formMode_named outside
    rw [side]
    split
    · rfl
    · rename_i sided
      exact (same sided).symm

end Sys2Proof.Machine

/-! # What a plain evaluation makes of the unit mode (R116 to R125) -/

namespace Sys2Proof.Machine

/-! ## Counts and calls by side -/

/-- R116: the wanted count of a side. -/
def ModeLogic.wantedOn (m : ModeLogic) : Side → Nat
  | .cooling => m.wantedCool
  | .heating => m.wantedHeat

/-- R115: the second-stage call of a side. -/
def ModeLogic.secondCall (m : ModeLogic) : Side → Bool
  | .cooling => m.cool2
  | .heating => m.heat2

theorem Side.eq_or_opposite (c d : Side) : c = d ∨ c = d.opposite := by
  cases c <;> cases d <;> decide

theorem Side.mode_ne_econ (d : Side) : d.mode ≠ .econ := by cases d <;> nofun

theorem State.wanted_eq (s : State) (d : Side) : s.wanted d = s.mode.wantedOn d := by
  cases d <;> rfl

/-- R115: the first-stage call of a side and no call of the other. -/
structure ModeLogic.CallsOnly (d : Side) (m : ModeLogic) : Prop where
  first : m.firstCall d = true
  other : m.firstCall d.opposite = false ∧ m.secondCall d.opposite = false

/-- The counts, the calls and what blocks a side are the same. -/
structure ModeLogic.SameCounts (a b : ModeLogic) : Prop where
  wanted : ∀ d, b.wantedOn d = a.wantedOn d := by intro d; rfl
  first : ∀ d, b.firstCall d = a.firstCall d := by intro d; rfl
  second : ∀ d, b.secondCall d = a.secondCall d := by intro d; rfl
  changeover : b.changeover = a.changeover := by rfl
  side : b.changeoverSide = a.changeoverSide := by rfl
  hold : b.yieldHold = a.yieldHold := by rfl

theorem State.formMode_sameCounts {s : State} (h : s.station.state ≠ .config) :
    s.aimed.SameCounts (s.formMode .plain) := by
  have kept := (State.formMode_finishes h).kept
  generalize s.formMode .plain = n at kept
  rw [kept]
  exact
    { wanted := fun d => by cases d <;> rfl
      first := fun d => by cases d <;> rfl
      second := fun d => by cases d <;> rfl }

theorem ModeLogic.SameCounts.callsOnly {a b : ModeLogic} (k : a.SameCounts b) {d : Side}
    (h : a.CallsOnly d) : b.CallsOnly d := by
  refine ⟨?_, ?_⟩
  · rw [k.first]
    exact h.first
  · rw [k.first, k.second]
    exact h.other

/-- R116: the counts of the aim. -/
theorem State.aimed_wantedOn (s : State) (d : Side) :
    s.aimed.wantedOn d = s.wantedOf s.aimed d (s.aimed.firstCall d) (s.aimed.secondCall d) := by
  cases d <;> rfl

/-- R116: without calls on a side nothing is wanted on it. -/
theorem State.aimed_idle {s : State} {d : Side} (h : s.aimed.CallsOnly d) :
    s.aimed.wantedOn d.opposite = 0 := by
  rw [s.aimed_wantedOn, h.other.1, h.other.2, State.wantedOf_none]

/-! ## The unit mode -/

/-- Without a yield hold the aim is the unit mode with its counts. -/
theorem State.aimed_free {s : State} (h : s.mode.yieldHold = none) :
    s.aimed = s.formWanted (s.formUnitMode s.formed) := by
  have free : s.formed.yieldHold = none := h
  rw [State.aimed, State.yieldEnd_held (by rw [free]; nofun)]

section
variable {s : State} {m : ModeLogic}

/-- R121: ECON stands with its call, the economizer and more to give. -/
theorem State.formUnitMode_econ (h : m.mode = .econ) (call : m.cool1 = true)
    (available : m.econAvailable = true) (unspent : s.econSpent m = false)
    (working : s.station.state.working = true) : s.formUnitMode m = m := by
  rw [State.formUnitMode, if_pos working, h]
  dsimp only
  rw [if_neg (by simp [call, available]), if_neg (by simp [unspent])]

/-- R121, case 3: fully open without enough, ECON gives way to COOL. -/
theorem State.formUnitMode_spent (h : m.mode = .econ) (call : m.cool1 = true)
    (available : m.econAvailable = true) (spent : s.econSpent m = true)
    (working : s.station.state.working = true) : s.formUnitMode m = { m with mode := .cool } := by
  rw [State.formUnitMode, if_pos working, h]
  dsimp only
  rw [if_neg (by simp [call, available]), if_pos spent]

/-- R121: ECON without its call is left with the changeover timer loaded. -/
theorem State.formUnitMode_uncalled (h : m.mode = .econ) (call : m.cool1 = false)
    (working : s.station.state.working = true) :
    s.formUnitMode m = { m.loadChangeover .cooling with mode := .off } := by
  rw [State.formUnitMode, if_pos working, h]
  exact if_pos (by simp [call])

/-- R122: COOL and HEAT stand with their call. -/
theorem State.formUnitMode_called {d : Side} (h : m.mode = d.mode) (call : m.firstCall d = true)
    (working : s.station.state.working = true) : s.formUnitMode m = m := by
  rw [State.formUnitMode, if_pos working, h]
  cases d with
  | cooling => exact if_neg (by simp [show m.cool1 = true from call])
  | heating => exact if_neg (by simp [show m.heat1 = true from call])

/-- R120: ECON entered. -/
theorem State.formUnitMode_entered (h : m.mode = .off ∨ m.mode = .vent)
    (entry : s.econEntry m = true) (working : s.station.state.working = true) :
    s.formUnitMode m = { m with
      mode := .econ
      fullOpen := if m.damper = 1000 then .running fullOpenTime else .stopped } := by
  rw [State.formUnitMode, if_pos working]
  rcases h with h | h <;> rw [h] <;> exact if_pos entry

end

/-- R130: the full-open timer of an evaluation. -/
theorem State.formMode_fullOpen {s : State} (h : s.station.state ≠ .config) :
    (s.formMode .plain).fullOpen =
      if (s.formMode .plain).mode = .econ ∧ (s.formMode .plain).fan = true then s.aimed.fullOpen
      else .stopped := by
  have air : s.formMode .plain = s.formDamper (s.formFan .plain s.aimed).name :=
    State.formMode_plain h
  have fullOpen : (s.formFan .plain s.aimed).name.fullOpen = s.aimed.fullOpen := by
    rw [ModeLogic.name_eq, State.formFan_eq]
  rw [← fullOpen, air]
  rfl

theorem State.formMode_sided {s : State} {u : UnitMode} (h : s.station.state ≠ .config)
    (aimed : s.aimed.mode = u) (sided : u.side ≠ none) : (s.formMode .plain).mode = u :=
  ((State.formMode_named h).2 (aimed ▸ sided)).trans aimed

/-! ## The error of a side -/

/-- R112: the error of a side, positive, for a zone temperature that the setpoints tell apart. -/
structure State.Errs (s : State) (d : Side) (e : Int) : Prop where
  zone : ∃ z, s.zoneReading.1 = some z ∧
    e = if d = .cooling then z - s.coolSetpoint else s.heatSetpoint - z
  low : s.heatSetpoint ≤ s.coolSetpoint
  pos : 0 < e

theorem State.stageFrame.zone {s t : State} (frame : s.stageFrame t) :
    t.zoneReading = s.zoneReading ∧ t.coolSetpoint = s.coolSetpoint ∧
      t.heatSetpoint = s.heatSetpoint ∧ t.economizerAvailable = s.economizerAvailable := by
  rw [frame.1]
  exact ⟨rfl, rfl, rfl, rfl⟩

theorem State.Errs.congr {s t : State} {d : Side} {e : Int} (h : s.Errs d e)
    (frame : s.stageFrame t) : t.Errs d e := by
  obtain ⟨zone, cool, heat, -⟩ := frame.zone
  refine ⟨?_, ?_, h.pos⟩
  · rw [zone, cool, heat]
    exact h.zone
  · rw [cool, heat]
    exact h.low

/-- R115: with an error on its side the calls of the other are cleared, and its own is set from 5. -/
theorem State.Errs.callsOnly {s : State} {d : Side} {e : Int} (h : s.Errs d e)
    (call : 5 ≤ e ∨ s.mode.firstCall d = true) : s.formed.CallsOnly d := by
  obtain ⟨z, zone, error⟩ := h.zone
  obtain ⟨-, cool1, cool2, heat1, heat2⟩ := State.formed_zone zone
  have low := h.low
  have pos := h.pos
  cases d with
  | cooling =>
    rw [if_pos rfl] at error
    refine ⟨?_, ?_, ?_⟩
    · change s.formed.cool1 = true
      change _ ∨ s.mode.cool1 = true at call
      rw [cool1]
      grind
    · change s.formed.heat1 = false
      rw [heat1, if_neg (by omega), if_pos (by omega)]
    · change s.formed.heat2 = false
      rw [heat2, if_neg (by omega), if_pos (by omega)]
  | heating =>
    rw [if_neg nofun] at error
    refine ⟨?_, ?_, ?_⟩
    · change s.formed.heat1 = true
      change _ ∨ s.mode.heat1 = true at call
      rw [heat1]
      grind
    · change s.formed.cool1 = false
      rw [cool1, if_neg (by omega), if_pos (by omega)]
    · change s.formed.cool2 = false
      rw [cool2, if_neg (by omega), if_pos (by omega)]

/-- The aim keeps the calls formed. -/
theorem State.aimed_callsOnly {s : State} {d : Side} (h : s.formed.CallsOnly d) :
    s.aimed.CallsOnly d := by
  have same := s.aimed_sameCalls
  have first (c : Side) : s.aimed.firstCall c = s.formed.firstCall c := by
    cases c
    · exact same.cool1
    · exact same.heat1
  have second (c : Side) : s.aimed.secondCall c = s.formed.secondCall c := by
    cases c
    · exact same.cool2
    · exact same.heat2
  exact ⟨(first d).trans h.first, (first _).trans h.other.1, (second _).trans h.other.2⟩

end Sys2Proof.Machine

/-! # Modes that the evaluations of an event keep (R116 to R125, R130) -/

namespace Sys2Proof.Machine

/-- R123: the changeover timer leaves the counts. -/
theorem ModeLogic.wantedOn_load (m : ModeLogic) (d c : Side) :
    (m.loadChangeover c).wantedOn d = m.wantedOn d := by
  cases d <;> rfl

theorem ModeLogic.wantedOn_damperStep (m : ModeLogic) (d : Side) :
    m.damperStep.wantedOn d = m.wantedOn d := by
  cases d <;> rfl

/-! ## ECON -/

/-- ECON with its call and the fan on, nothing wanted. -/
structure ModeLogic.Economizing (fullOpen : FullOpen) (damper : Nat) (m : ModeLogic) : Prop where
  mode : m.mode = .econ
  free : m.yieldHold = none
  idle : ∀ d, m.wantedOn d = 0
  call : m.firstCall .cooling = true
  fan : m.fan = true
  fullOpen : m.fullOpen = fullOpen
  damper : m.damper = damper

theorem State.formMode_economizing {s : State} (working : s.station.state.working = true)
    (econ : s.aimed.mode = .econ) (free : s.aimed.yieldHold = none)
    (calls : s.aimed.CallsOnly .cooling) :
    (s.formMode .plain).Economizing s.aimed.fullOpen s.mode.damper := by
  have outside := State.working_not_config working
  have same := State.formMode_sameCounts outside
  have mode : (s.formMode .plain).mode = .econ := State.formMode_sided outside econ nofun
  have fan : (s.formMode .plain).fan = true := by
    rw [State.formMode_eq outside]
    change (s.formFan .plain s.aimed).fan = true
    rw [State.formFan, if_pos working, if_pos (by simp [State.fanDemand, econ])]
  refine
    { mode := mode
      free := same.hold.trans free
      idle := fun d => (same.wanted d).trans ?_
      call := (same.first .cooling).trans calls.first
      fan := fan
      fullOpen := by rw [State.formMode_fullOpen outside, if_pos ⟨mode, fan⟩]
      damper := by rw [State.formMode_damper outside, if_pos fan] }
  cases d with
  | cooling =>
    rw [s.aimed_wantedOn, State.wantedOf, if_pos (by simp [econ])]
  | heating => exact State.aimed_idle calls

/-- R121: whether ECON has been fully open without enough, for an error of cooling. -/
theorem State.Errs.spent {s : State} {e : Int} (h : s.Errs .cooling e) :
    s.econSpent s.formed = true ↔
      s.mode.fullOpen = .expired ∧ s.mode.damper = 1000 ∧ 5 ≤ e := by
  obtain ⟨z, zone, error⟩ := h.zone
  rw [if_pos rfl] at error
  have formed : s.coolError s.formed = some e := by
    change s.zoneReading.1.map _ = some e
    rw [zone, error]
    rfl
  have fullOpen : s.formed.fullOpen = s.mode.fullOpen := rfl
  have damper : s.formed.damper = s.mode.damper := rfl
  simp [State.econSpent, formed, fullOpen, damper, and_assoc]

/-- R121: what keeps a mode in ECON, by its error of cooling. -/
theorem State.formMode_stays {s : State} {e : Int} (working : s.station.state.working = true)
    (available : s.economizerAvailable = true) (errs : s.Errs .cooling e)
    (econ : s.mode.mode = .econ) (free : s.mode.yieldHold = none)
    (call : 5 ≤ e ∨ s.mode.firstCall .cooling = true)
    (unspent : ¬(s.mode.fullOpen = .expired ∧ s.mode.damper = 1000 ∧ 5 ≤ e)) :
    (s.formMode .plain).Economizing s.mode.fullOpen s.mode.damper := by
  have calls := errs.callsOnly call
  have aimed : s.aimed = s.formWanted s.formed := by
    rw [State.aimed_free free, State.formUnitMode_econ (m := s.formed) econ calls.first available
      (Bool.eq_false_iff.2 (mt errs.spent.1 unspent)) working]
  have formed := State.formMode_economizing working (by rw [aimed]; exact econ)
    (by rw [aimed]; exact free) (State.aimed_callsOnly calls)
  rw [aimed] at formed
  exact formed

theorem State.economizing_lasts {z : State} {e : Int} {fullOpen : FullOpen} {damper : Nat}
    (working : z.station.state.working = true) (available : z.economizerAvailable = true)
    (errs : z.Errs .cooling e) (unspent : ¬(fullOpen = .expired ∧ damper = 1000 ∧ 5 ≤ e)) :
    z.Lasts (ModeLogic.Economizing fullOpen damper) where
  form t frame h := by
    have stays := State.formMode_stays (by rw [frame.station_eq]; exact working)
      (frame.zone.2.2.2.trans available) (errs.congr frame) h.mode h.free (.inr h.call)
      (by rw [h.fullOpen, h.damper]; exact unspent)
    rwa [h.fullOpen, h.damper] at stays
  load m c h := ⟨h.mode, h.free, fun d => (m.wantedOn_load d c).trans (h.idle d), h.call, h.fan, h.fullOpen,
    h.damper⟩
  grant t d h wanted := by
    rw [t.wanted_eq, h.idle] at wanted
    cases wanted

/-! ## COOL and HEAT -/

/-- COOL or HEAT with nothing wanted on the other side. -/
structure ModeLogic.Serving (d : Side) (m : ModeLogic) : Prop where
  mode : m.mode = d.mode
  free : m.yieldHold = none
  fullOpen : m.fullOpen = .stopped
  idle : m.wantedOn d.opposite = 0

theorem State.formMode_serving {s : State} {d : Side} (working : s.station.state.working = true)
    (mode : s.aimed.mode = d.mode) (free : s.aimed.yieldHold = none)
    (calls : s.aimed.CallsOnly d) : (s.formMode .plain).Serving d := by
  have outside := State.working_not_config working
  have same := State.formMode_sameCounts outside
  have formed : (s.formMode .plain).mode = d.mode :=
    State.formMode_sided outside mode (by cases d <;> nofun)
  refine ⟨formed, same.hold.trans free, ?_, (same.wanted _).trans (State.aimed_idle calls)⟩
  rw [State.formMode_fullOpen outside, if_neg]
  rintro ⟨econ, -⟩
  exact d.mode_ne_econ (formed.symm.trans econ)

/-- The aim of a mode that serves a side whose call stands. -/
theorem State.aimed_serving {s : State} {d : Side} (working : s.station.state.working = true)
    (calls : s.formed.CallsOnly d) (mode : s.mode.mode = d.mode) (free : s.mode.yieldHold = none) :
    s.aimed = s.formWanted s.formed := by
  rw [State.aimed_free free, State.formUnitMode_called (m := s.formed) mode calls.first working]

theorem State.serving_lasts {z : State} {d : Side} {e : Int}
    (working : z.station.state.working = true) (errs : z.Errs d e) (call : 5 ≤ e) :
    z.Lasts (ModeLogic.Serving d) where
  form t frame h := by
    have works : t.station.state.working = true := by rw [frame.station_eq]; exact working
    have calls := (errs.congr frame).callsOnly (.inl call)
    have aimed := State.aimed_serving works calls h.mode h.free
    exact State.formMode_serving works (by rw [aimed]; exact h.mode) (by rw [aimed]; exact h.free)
      (State.aimed_callsOnly calls)
  load m c h := ⟨h.mode, h.free, h.fullOpen, (m.wantedOn_load _ c).trans h.idle⟩
  grant t c h wanted := by
    have own : c = d := (c.eq_or_opposite d).resolve_right fun opposite => by
      rw [t.wanted_eq, opposite, h.idle] at wanted
      cases wanted
    rw [own]
    exact ⟨rfl, h.free, rfl, by cases d <;> exact h.idle⟩

/-! ## FULL_OPEN_EXPIRY (R121, R130) -/

/-- R130: the full-open timer expired. -/
def State.openedFully (s : State) : State := { s with mode.fullOpen := .expired }

theorem State.fullOpenExpiry_runs {s : State} {n : Nat} (hp : s.powered = true)
    (ht : s.mode.fullOpen = .running n) :
    exec .fullOpenExpiry s = .next ((s.openedFully.evaluate .plain).settleInto s) := by
  change execFullOpenExpiry s = _
  rw [execFullOpenExpiry, State.event_runs s _ _ hp (by rw [ht]; rfl)]
  rfl

theorem State.fullOpenExpiry_lasts {s : State} {n : Nat} {R : ModeLogic → Prop}
    (hp : s.powered = true) (ht : s.mode.fullOpen = .running n) (k : s.openedFully.Lasts R)
    (first : R (s.openedFully.formMode .plain)) :
    ∃ t, exec .fullOpenExpiry s = .next t ∧ R t.mode ∧ t.fault = s.fault ∧ s.stageFrame t :=
  ⟨_, State.fullOpenExpiry_runs hp ht, k.settled ⟨rfl, rfl⟩ rfl first⟩

/-- R121: fully open without enough. -/
theorem State.openedFully_serves {s : State} {e : Int} (working : s.station.state.working = true)
    (available : s.economizerAvailable = true) (errs : s.Errs .cooling e) (call : 5 ≤ e)
    (econ : s.mode.mode = .econ) (free : s.mode.yieldHold = none) (damper : s.mode.damper = 1000) :
    (s.openedFully.formMode .plain).Serving .cooling := by
  have errs : s.openedFully.Errs .cooling e := errs.congr ⟨rfl, rfl⟩
  have calls := errs.callsOnly (.inl call)
  have aimed : s.openedFully.aimed =
      s.openedFully.formWanted { s.openedFully.formed with mode := .cool } := by
    rw [State.aimed_free (s := s.openedFully) free, State.formUnitMode_spent
      (m := s.openedFully.formed) econ calls.first available (errs.spent.2 ⟨rfl, damper, call⟩)
      working]
  exact State.formMode_serving working (by rw [aimed]; rfl) (by rw [aimed]; exact free)
    (State.aimed_callsOnly calls)

/-! ## DAMPER_TIMER_EXPIRY -/

theorem State.damperTimerExpiry_lasts {s : State} {R : ModeLogic → Prop} (hp : s.powered = true)
    (ht : s.mode.damperTimer.isSome = true) (k : s.timed.Lasts R)
    (first : R (s.timed.formMode .damperStep)) :
    ∃ t, exec .damperTimerExpiry s = .next t ∧ R t.mode ∧ t.fault = s.fault ∧ s.stageFrame t :=
  ⟨_, State.damperTimerExpiry_runs hp ht, k.settled ⟨rfl, rfl⟩ rfl first⟩

/-! ### A yield hold that stands (R125) -/

/-- A yield hold with nothing wanted on its side. -/
structure ModeLogic.Yielding (d : Side) (m : ModeLogic) : Prop where
  hold : m.yieldHold = some d
  idle : m.wantedOn d = 0

/-- R116, R125: a hold that does not end is kept. -/
theorem State.formMode_yielding {s : State} {d : Side} (outside : s.station.state ≠ .config)
    (hold : s.mode.yieldHold = some d) (stands : s.yieldEnds s.formed d = false) :
    (s.formMode .plain).Yielding d := by
  have same := State.formMode_sameCounts outside
  have formed : s.formed.yieldHold = some d := hold
  have kept : s.yieldEnd s.formed = s.formed := State.yieldEnd_held fun c hc => by
    rw [formed] at hc
    cases hc
    exact stands
  have aimed : s.aimed.yieldHold = some d := by
    rw [State.aimed, kept]
    exact ((s.formUnitMode_kept _).1).trans formed
  refine ⟨same.hold.trans aimed, (same.wanted d).trans ?_⟩
  rw [s.aimed_wantedOn, State.wantedOf, if_pos (by simp [aimed])]

theorem State.yielding_lasts {z : State} {d : Side} (outside : z.station.state ≠ .config)
    (level : (z.formDemand z.mode).level ≠ 7) (opposed : z.opposed d = true) :
    z.Lasts (ModeLogic.Yielding d) where
  form t frame h := by
    have formed : t.formed.level = z.formed.level := by
      have formed : t.formed = z.formedOf t.mode := frame.formedOf t.mode
      rw [formed]
      rfl
    have same : t.opposed d = true := by
      rw [State.opposed, frame.table_eq]
      exact opposed
    refine State.formMode_yielding (by rw [frame.station_eq]; exact outside) h.hold ?_
    have level : z.formed.level ≠ 7 := level
    simp [State.yieldEnds, formed, level, same]
  load m c h := ⟨h.hold, (m.wantedOn_load d c).trans h.idle⟩
  grant _ _ h _ := ⟨h.hold, by cases d <;> exact h.idle⟩

theorem State.opposed_iff (s : State) (d : Side) : s.opposed d = true ↔
    ∃ n, (s.entry n).state.heard = true ∧ (s.entry n).mark = true ∧
      ∃ r ∈ (s.entry n).report, if d = .cooling then r.unitMode = 4
        else r.unitMode = 3 ∨ r.unitMode = 2 := by
  simp only [← opposes_iff, State.opposed, List.any_eq_true, s.mem_entries]
  constructor
  · rintro ⟨e, ⟨n, -, rfl⟩, opposes⟩
    split at opposes
    · rename_i r heard mark report
      exact ⟨n, heard, mark, r, report, opposes⟩
    · cases opposes
  · rintro ⟨n, heard, mark, r, report, opposes⟩
    refine ⟨s.entry n, ⟨n, State.entry_inside (s := s) fun blank => ?_, rfl⟩, ?_⟩
    · rw [blank] at heard
      cases heard
    · rw [heard, mark, report]
      exact opposes

/-! ### ECON entered (R120, R129, R130) -/

/-- R120: no entry heating or claiming to heat. -/
theorem State.neighbourHeats_none {s : State}
    (h : ∀ n : Nat, (s.entry n).state.heard = true → (s.entry n).mark = true →
      (s.entry n).report.map Report.unitMode ≠ some 4 ∧
        (s.entry n).claim.map ClaimPart.intended ≠ some 4) : s.neighbourHeats = false := by
  simp only [State.neighbourHeats, List.any_eq_false, s.mem_entries]
  rintro e ⟨n, -, rfl⟩ heats
  simp only [Bool.and_eq_true, Bool.or_eq_true, beq_iff_eq] at heats
  obtain ⟨⟨heard, mark⟩, heats⟩ := heats
  obtain ⟨report, claim⟩ := h n heard mark
  exact heats.elim report claim

/-- R130: the full-open timer that a damper command gives on entry. -/
def openAt (damper : Nat) : FullOpen :=
  if damper = 1000 then .running fullOpenTime else .stopped

/-- R128: the economizer's target is within the damper's range. -/
theorem damperLaw_le {cfg : ConfigRecord} (h : cfg.damperMin ≤ 1000) (supply : Int) :
    damperLaw cfg supply ≤ 1000 := by
  have law := damperLaw_cast cfg supply
  omega

theorem ModeLogic.damperStep_fullOpen (m : ModeLogic) : m.damperStep.fullOpen =
    if m.damperStep.damper < 1000 then .stopped
    else if m.mode = .econ ∧ m.damper < 1000 then .running fullOpenTime
    else m.fullOpen := rfl

theorem ModeLogic.damperStep_le {m : ModeLogic} {bound : Nat} (command : m.damper ≤ bound)
    (target : m.damperTarget ≤ bound) : m.damperStep.damper ≤ bound := by
  rw [ModeLogic.damperStep_damper, damperToward]
  split <;> omega

/-- R129, R130: a damper step in ECON leaves the timer that the command reached gives. -/
theorem ModeLogic.Economizing.stepped {m : ModeLogic} {damper : Nat}
    (h : m.Economizing (openAt damper) damper) (command : damper ≤ 1000)
    (target : m.damperTarget ≤ 1000) :
    m.damperStep.Economizing (openAt m.damperStep.damper) m.damperStep.damper := by
  have reached : m.damperStep.damper ≤ 1000 :=
    ModeLogic.damperStep_le (h.damper ▸ command) target
  refine ⟨h.mode, h.free, fun d => (m.wantedOn_damperStep d).trans (h.idle d), h.call, h.fan, ?_,
    rfl⟩
  rw [ModeLogic.damperStep_fullOpen, h.damper, h.fullOpen]
  split
  · rename_i below
    exact (if_neg (Nat.ne_of_lt below)).symm
  · have full : m.damperStep.damper = 1000 := by omega
    rw [openAt, openAt, if_pos full]
    split
    · rfl
    · rename_i still
      exact if_pos (by simp only [h.mode, true_and] at still; omega)

/-- R120: with its call and the economizer, ECON is entered from OFF and VENT. -/
theorem State.formMode_enters {s : State} {e : Int} (working : s.station.state.working = true)
    (available : s.economizerAvailable = true) (errs : s.Errs .cooling e) (call : 5 ≤ e)
    (resting : s.mode.mode = .off ∨ s.mode.mode = .vent) (free : s.mode.yieldHold = none)
    (idle : s.runningCount .cooling = 0)
    (unblocked : s.mode.changeover = none ∨ s.mode.changeoverSide = .cooling)
    (alone : s.neighbourHeats = false) :
    (s.formMode .plain).Economizing (openAt s.mode.damper) s.mode.damper := by
  have calls := errs.callsOnly (.inl call)
  have cool1 : s.formed.cool1 = true := calls.first
  have openEcon : s.formed.econAvailable = true := available
  have hold : s.formed.yieldHold = none := free
  have blocked : s.formed.blocked .cooling = false := by
    change (s.mode.changeover.isSome && s.mode.changeoverSide == .heating) = false
    rcases unblocked with none | own
    · rw [none]
      rfl
    · rw [own, Bool.and_eq_false_iff]
      exact .inr rfl
  have entry : s.econEntry s.formed = true := by
    simp [State.econEntry, cool1, openEcon, idle, blocked, hold, alone]
  have aimed : s.aimed =
      s.formWanted { s.formed with mode := .econ, fullOpen := openAt s.mode.damper } := by
    rw [State.aimed_free free, State.formUnitMode_entered (m := s.formed) resting entry working]
    rfl
  have formed := State.formMode_economizing working (by rw [aimed]; rfl) (by rw [aimed]; exact free)
    (State.aimed_callsOnly calls)
  have fullOpen : s.aimed.fullOpen = openAt s.mode.damper := by
    rw [aimed]
    rfl
  rwa [fullOpen] at formed

end Sys2Proof.Machine

/-! # The mode timers expire (R116 to R125, R130) -/

namespace Sys2Proof.Machine

/-! ## ECON entered at a damper timer expiry -/

theorem State.Errs.timed {s : State} {d : Side} {e : Int} (h : s.Errs d e) : s.timed.Errs d e :=
  h.congr ⟨rfl, rfl⟩

/-- What leads into ECON, for an error of cooling (R120). -/
structure State.EntersEcon (s : State) (e : Int) : Prop where
  working : s.station.state.working = true
  available : s.economizerAvailable = true
  errs : s.Errs .cooling e
  call : 5 ≤ e
  resting : s.mode.mode = .off ∨ s.mode.mode = .vent
  free : s.mode.yieldHold = none
  idle : s.runningCount .cooling = 0
  unblocked : s.mode.changeover = none ∨ s.mode.changeoverSide = .cooling
  alone : s.neighbourHeats = false

theorem State.EntersEcon.formMode {s : State} {e : Int} (h : s.EntersEcon e) :
    (s.formMode .plain).Economizing (openAt s.mode.damper) s.mode.damper :=
  State.formMode_enters h.working h.available h.errs h.call h.resting h.free h.idle h.unblocked
    h.alone

theorem State.EntersEcon.timed {s : State} {e : Int} (h : s.EntersEcon e) : s.timed.EntersEcon e :=
  ⟨h.working, h.available, h.errs.timed, h.call, h.resting, h.free, h.idle, h.unblocked, h.alone⟩

/-- R120, R129, R130: the evaluation of the damper timer enters ECON and steps. -/
theorem State.EntersEcon.steps {s : State} {e : Int} (h : s.EntersEcon e)
    (damper : s.mode.damper ≤ 1000) (least : s.cfg.damperMin ≤ 1000) :
    (s.formMode .damperStep).Economizing (openAt (s.formMode .damperStep).damper)
      (s.formMode .damperStep).damper := by
  have outside := State.working_not_config h.working
  have entered := h.formMode
  have target : (s.formMode .plain).damperTarget ≤ 1000 := by
    rw [State.formMode_target outside, State.targetOf, if_pos entered.fan,
      if_pos (.inl entered.mode)]
    exact damperLaw_le least _
  rw [State.formMode_damperStep outside]
  exact entered.stepped damper target

theorem State.damperTimerExpiry_enters {s : State} {e : Int} (hp : s.powered = true)
    (ht : s.mode.damperTimer.isSome = true) (h : s.EntersEcon e) (damper : s.mode.damper ≤ 1000)
    (least : s.cfg.damperMin ≤ 1000) :
    ∃ t, exec .damperTimerExpiry s = .next t ∧
      t.mode.Economizing (openAt t.mode.damper) t.mode.damper ∧ t.pins.fan = true ∧
      t.link.stateSlot.waiting = true ∧ t.fault = s.fault ∧ s.stageFrame t := by
  have entered := h.timed
  have first := entered.steps damper least
  have unspent (d : Nat) : ¬(openAt d = .expired ∧ d = 1000 ∧ 5 ≤ e) := by
    rintro ⟨expired, -, -⟩
    unfold openAt at expired
    split at expired <;> cases expired
  obtain ⟨mode, fault, frame⟩ := (State.economizing_lasts entered.working entered.available
    entered.errs (unspent _)).settled (s := s) ⟨rfl, rfl⟩ rfl first
  have waiting : (s.timed.evaluate .damperStep).link.stateSlot.waiting = true := by
    refine State.evaluate_waiting (StationState.reports_of_working entered.working) ?_
    rw [first.mode]
    rcases entered.resting with off | vent
    · rw [off]
      nofun
    · rw [vent]
      nofun
  refine ⟨_, State.damperTimerExpiry_runs hp ht, ?_, (State.settleInto_fanPin _ s).trans mode.fan,
    (State.settleInto_asked _ s).state waiting, fault, frame⟩
  rw [mode.damper]
  exact mode

/-! ## A yield hold that ends (R125) -/

/-- R116, R123: with its side not blocked the count is that of its calls. -/
structure ModeLogic.Counted (d : Side) (m : ModeLogic) : Prop where
  clear : m.changeover = none ∨ m.changeoverSide = d
  count : m.wantedOn d = 1 + (m.secondCall d).toNat

/-- R123: a timer of the own side, or none, blocks no start on it. -/
theorem ModeLogic.blocked_clear {m : ModeLogic} {d : Side}
    (clear : m.changeover = none ∨ m.changeoverSide = d) : m.blocked d = false := by
  rcases clear with none | own
  · simp [ModeLogic.blocked, none]
  · cases d <;> simp [ModeLogic.blocked, own, Side.opposite]

theorem State.formMode_counted {s : State} {d : Side} (working : s.station.state.working = true)
    (mode : s.aimed.mode = d.mode) (free : s.aimed.yieldHold = none) (calls : s.aimed.CallsOnly d)
    (clear : s.aimed.changeover = none ∨ s.aimed.changeoverSide = d) :
    (s.formMode .plain).Counted d := by
  have same := State.formMode_sameCounts (State.working_not_config working)
  refine ⟨?_, ?_⟩
  · rw [same.changeover, same.side]
    exact clear
  · have blocked := ModeLogic.blocked_clear clear
    rw [same.wanted, same.second, s.aimed_wantedOn, State.wantedOf, if_neg, calls.first]
    · rfl
    · cases d <;> simp [working, blocked, free, mode, Side.mode]

/-- A side served with its count, and no stage of the other running. -/
structure State.ServesAlone (z : State) (d : Side) (t : State) : Prop where
  within : z.Within (fun m => m.Serving d ∧ m.Counted d) t
  alone : t.runningCount d.opposite = 0

/-- R123: with nothing of the other side running, a report loads the timer of the own side at most. -/
theorem State.movedMode_alone {s before : State} {d : Side} (h : before.runningCount d.opposite = 0) :
    s.movedMode before = s.mode ∨ s.movedMode before = s.mode.loadChangeover d := by
  unfold State.movedMode
  cases d <;>
  · simp only [Side.opposite] at h
    simp only [h, Nat.lt_irrefl, decide_false, Bool.false_and, Bool.false_eq_true, if_false]
    split
    · exact .inr rfl
    · exact .inl rfl

/-- R77, R143: a decision moves no slot but the one it is for. -/
theorem State.Decision.other {s t : State} {i j : Slot} (d : s.Decision i t) (h : j ≠ i) :
    t.slot j = s.slot j := by
  cases d with
  | claim level headroom =>
    have slots : ((s.judged level headroom).openClaim i level).stage.slots =
        ((s.judged level headroom).setSlot i
          { (s.judged level headroom).slot i with state := .claimed }).stage.slots := by
      rw [State.openClaim, State.requestState_stage]
    rw [State.slot_congr slots, State.slot_setSlot, if_neg h]
    rfl
  | shed level headroom needed =>
    exact State.slot_congr (by simp [State.callShed, State.judged]) j
  | denied => rfl
  | granted level headroom mode =>
    rw [State.grant, State.slot, State.grantMode_stage]
    exact (State.startSlot_slot _ i j).trans (if_neg h)

/-- R77, R143: the slot of a decision stays READY, is claimed, or starts. -/
theorem State.Decision.own {s t : State} {i : Slot} (d : s.Decision i t)
    (ready : s.stageState i = .ready) : t.stageState i ≠ .runFree := by
  have kept (h : t.stage.slots = s.stage.slots) : t.stageState i ≠ .runFree := by
    rw [State.stageState_congr h, ready]
    nofun
  cases d with
  | claim level headroom => rw [State.openClaim_claimed]; nofun
  | shed level headroom needed => exact kept (by simp [State.callShed, State.judged])
  | denied => exact kept rfl
  | granted level headroom mode =>
    rw [State.stageState, State.grant_slot]
    rcases State.startedStage_state (s.judged level headroom) i with h | h <;> rw [h] <;> nofun

/-- A start leaves the running stages running. -/
theorem State.Decision.running {s t : State} {i j : Slot} (d : s.Decision i t)
    (ready : s.stageState i = .ready) (runs : s.isRunning j = true) : t.isRunning j = true := by
  have other : j ≠ i := by
    rintro rfl
    rw [State.isRunning, ready] at runs
    cases runs
  rw [State.isRunning, State.stageState, d.other other]
  exact runs

theorem State.runningCount_zero_iff (s : State) (d : Side) :
    s.runningCount d = 0 ↔ ∀ i, sideOf i = d → s.isRunning i = false := by
  have mem (i : Slot) : i ∈ d.slots ↔ sideOf i = d := by cases d <;> cases i <;> decide
  simp [State.runningCount, List.filter_eq_nil_iff, mem]

/-- A start on one side leaves the other without running stages. -/
theorem State.Decision.alone {s t : State} {i : Slot} {d : Side} (k : s.Decision i t)
    (own : sideOf i ≠ d) (h : s.runningCount d = 0) : t.runningCount d = 0 := by
  rw [State.runningCount_zero_iff] at h ⊢
  intro j side
  have other : j ≠ i := by
    rintro rfl
    exact own side
  rw [State.isRunning, State.stageState, k.other other]
  exact h j side

theorem ModeLogic.Counted.load {m : ModeLogic} {d : Side} (h : m.Counted d) :
    (m.loadChangeover d).Counted d :=
  ⟨.inr rfl, (m.wantedOn_load d d).trans h.count⟩

theorem ModeLogic.Counted.damperStep {m : ModeLogic} {d : Side} (h : m.Counted d) :
    m.damperStep.Counted d :=
  ⟨h.clear, (m.wantedOn_damperStep d).trans (by cases d <;> exact h.count)⟩

/-- R130: outside ECON the damper's step leaves the full-open timer stopped. -/
theorem ModeLogic.Serving.damperStep {m : ModeLogic} {d : Side} (h : m.Serving d) :
    m.damperStep.Serving d := by
  refine ⟨h.mode, h.free, ?_, (m.wantedOn_damperStep _).trans h.idle⟩
  rw [ModeLogic.damperStep_fullOpen, h.mode, h.fullOpen]
  split
  · rfl
  · exact if_neg fun econ => d.mode_ne_econ econ.1

/-- R125, R116: what the evaluations of the event make of a side served alone. -/
theorem State.servesAlone_carried {z : State} {d : Side} {e : Int}
    (working : z.station.state.working = true) (errs : z.Errs d e) (call : 5 ≤ e) :
    State.Carried (z.ServesAlone d) (z.ServesAlone d) := by
  have lasts := State.serving_lasts working errs call
  have moved {s t : State} (h : s.runningCount d.opposite = 0) (mode : t.mode.Serving d)
      (counted : t.mode.Counted d) : (t.movedMode s).Serving d ∧ (t.movedMode s).Counted d := by
    rcases State.movedMode_alone (s := t) h with same | loaded
    · rw [same]
      exact ⟨mode, counted⟩
    · rw [loaded]
      exact ⟨lasts.load _ d mode, counted.load⟩
  have still {s t : State} (h : z.ServesAlone d s) (k : s.Still t) : z.ServesAlone d t :=
    ⟨h.within.still k, (State.runningCount_congr (State.isRunning_congr k.slots) _).trans h.alone⟩
  refine
    { still := still
      unformed := still
      form := fun s h => ?_
      stop := fun s i free h => ?_
      start := fun s t i h selectable k starts => ?_ }
  · obtain ⟨frame, serving, counted⟩ := h.within
    have works : s.station.state.working = true := by rw [frame.station_eq]; exact working
    have calls := (errs.congr frame).callsOnly (.inl call)
    have aimed := State.aimed_serving works calls serving.mode serving.free
    refine ⟨⟨State.stageFrame_trans frame ⟨rfl, rfl⟩, lasts.form s frame serving, ?_⟩, h.alone⟩
    exact State.formMode_counted works (by rw [aimed]; exact serving.mode)
      (by rw [aimed]; exact serving.free) (State.aimed_callsOnly calls)
      (by rw [aimed]; exact counted.clear)
  · obtain ⟨frame, serving, counted⟩ := h.within
    have mode := s.stopSlot_mode i
    refine ⟨⟨State.stageFrame_trans frame (State.stageFrame_trans (s.stopSlot_frame i) ⟨rfl, rfl⟩),
      moved h.alone (by rw [mode]; exact serving) (by rw [mode]; exact counted)⟩, ?_⟩
    exact State.runningCount_stopSlot i h.alone
  · obtain ⟨frame, serving, counted⟩ := h.within
    have wanted := State.wanted_of_selectable selectable
    have other : sideOf i ≠ d.opposite := fun opposite => by
      rw [opposite, s.wanted_eq, serving.idle] at wanted
      cases wanted
    have started : t.mode.Serving d ∧ t.mode.Counted d := by
      refine starts.of_grant (R := fun m => m.Serving d ∧ m.Counted d) ⟨serving, counted⟩
        ⟨lasts.grant s _ serving wanted, ?_⟩
      exact ⟨counted.clear, by cases d <;> exact counted.count⟩
    exact ⟨⟨State.stageFrame_trans frame (State.stageFrame_trans k.frame ⟨rfl, rfl⟩),
      moved h.alone started.1 started.2⟩, k.alone other h.alone⟩

/-- R125: the mode on the side of a hold that ended. -/
def ModeLogic.resumed (m : ModeLogic) (d : Side) : ModeLogic :=
  { m with yieldHold := none, mode := d.mode }

theorem ModeLogic.firstCall_resumed (m : ModeLogic) (d : Side) :
    (m.resumed d).firstCall d = m.firstCall d := by
  cases d <;> rfl

/-- R125: what the end of a hold leaves. -/
theorem State.yieldEnd_ends {s : State} {m : ModeLogic} {d : Side} (hold : m.yieldHold = some d)
    (ends : s.yieldEnds m d = true) :
    s.yieldEnd m = if 0 < s.runningCount d ∧ m.firstCall d = true
      then m.resumed d else { m with yieldHold := none } := by
  have ends : (s.station.state.working && (m.level == 7 || !s.opposed d)) = true := ends
  simp only [State.yieldEnd, hold, ends, if_true, Bool.and_eq_true, decide_eq_true_eq]
  rfl

/-- R125: a yield hold neither stands nor is set by an evaluation that ends it or finds none. -/
theorem State.formMode_free {s : State} (outside : s.station.state ≠ .config)
    (ends : ∀ d ∈ s.mode.yieldHold, s.yieldEnds s.formed d = true) :
    (s.formMode .plain).yieldHold = none := by
  rw [(State.formMode_sameCounts outside).hold]
  refine ((s.formUnitMode_kept _).1).trans ?_
  cases hold : s.mode.yieldHold with
  | none =>
    have free : s.formed.yieldHold = none := hold
    rw [State.yieldEnd_held (by rw [free]; nofun), free]
  | some d =>
    rw [State.yieldEnd_ends (m := s.formed) hold (ends d hold)]
    split <;> rfl

theorem State.free_lasts {z : State} (outside : z.station.state ≠ .config) :
    z.Lasts fun m => m.yieldHold = none where
  form t frame h := State.formMode_free (by rw [frame.station_eq]; exact outside) (by rw [h]; nofun)
  load _ _ h := h
  grant _ _ h _ := h

/-- R125: a hold that ends while a stage of its side runs under its call leads to COOL or HEAT. -/
theorem State.formMode_resumes {s : State} {d : Side} {e : Int}
    (working : s.station.state.working = true) (errs : s.Errs d e) (call : 5 ≤ e)
    (hold : s.mode.yieldHold = some d) (ends : s.yieldEnds s.formed d = true)
    (runs : 0 < s.runningCount d) (clear : s.mode.changeover = none ∨ s.mode.changeoverSide = d) :
    (s.formMode .plain).Serving d ∧ (s.formMode .plain).Counted d := by
  have calls := errs.callsOnly (.inl call)
  have aimed : s.aimed = s.formWanted (s.formed.resumed d) := by
    rw [State.aimed, State.yieldEnd_ends (m := s.formed) hold ends, if_pos ⟨runs, calls.first⟩,
      State.formUnitMode_called (m := s.formed.resumed d) (d := d) rfl
        ((s.formed.firstCall_resumed d).trans calls.first) working]
  have mode : s.aimed.mode = d.mode := by rw [aimed]; rfl
  have free : s.aimed.yieldHold = none := by rw [aimed]; rfl
  exact ⟨State.formMode_serving working mode free (State.aimed_callsOnly calls),
    State.formMode_counted working mode free (State.aimed_callsOnly calls)
      (by rw [aimed]; exact clear)⟩

section
variable {s : State} {d : Side} (working : s.station.state.working = true)
  (hold : s.mode.yieldHold = some d) (ends : s.yieldEnds s.formed d = true)
include working hold ends

/-- R125: the hold at the end of a damper timer expiry. -/
theorem State.damperTimerExpiry_free :
    let t := (s.timed.evaluate .damperStep).settleInto s
    t.mode.yieldHold = none ∧ t.fault = s.fault ∧ s.stageFrame t := by
  have outside : s.timed.station.state ≠ .config := State.working_not_config working
  refine (State.free_lasts outside).settled ⟨rfl, rfl⟩ rfl ?_
  rw [State.formMode_damperStep outside]
  exact State.formMode_free (s := s.timed) outside fun c hc => by
    rw [show s.timed.mode.yieldHold = some d from hold] at hc
    cases hc
    exact ends

/-- R116, R125: the side of the hold served again. -/
theorem State.damperTimerExpiry_resumes {e : Int} (errs : s.Errs d e) (call : 5 ≤ e)
    (runs : 0 < s.runningCount d) (alone : s.oneSide = true)
    (clear : s.mode.changeover = none ∨ s.mode.changeoverSide = d) :
    s.timed.ServesAlone d ((s.timed.evaluate .damperStep).settleInto s) := by
  have outside : s.timed.station.state ≠ .config := State.working_not_config working
  have carried := State.servesAlone_carried (z := s.timed) working errs.timed call
  have other : s.runningCount d.opposite = 0 := by
    simp only [State.oneSide, Bool.or_eq_true, beq_iff_eq] at alone
    cases d with
    | cooling => exact alone.resolve_left (by omega)
    | heating => exact alone.resolve_right (by omega)
  obtain ⟨serving, counted⟩ := State.formMode_resumes (s := s.timed) working errs.timed call hold
    ends runs clear
  refine carried.settleInto s (carried.evaluate ⟨⟨⟨rfl, rfl⟩, ?_⟩, other⟩)
  change (s.timed.formMode .damperStep).Serving d ∧ (s.timed.formMode .damperStep).Counted d
  rw [State.formMode_damperStep outside]
  exact ⟨serving.damperStep, counted.damperStep⟩

end

end Sys2Proof.Machine

/-! # The changeover timer expires (R116, R121, R123) -/

namespace Sys2Proof.Machine

/-! ## The event -/

/-- R123: the changeover timer expired. -/
def State.unblocked (s : State) : State := { s with mode.changeover := none }

theorem State.changeoverExpiry_runs {s : State} (hp : s.powered = true)
    (ht : s.mode.changeover.isSome = true) :
    exec .changeoverExpiry s = .next ((s.unblocked.evaluate .plain).settleInto s) := by
  change execChangeoverExpiry s = _
  rw [execChangeoverExpiry, State.event_runs s _ _ hp ht]
  rfl

/-! ## An event that brings no stop and no start -/

theorem State.startsHeld_keeps : State.Keeps (fun t => t.startsHeld = true) where
  mode _ _ h := h
  denials _ h := h
  fan s on h := by rw [s.fanCommanded_eq on]; exact h
  request s h := by rw [s.requestState_eq false]; exact h
  stop s i h := by rw [s.stopSlot_eq i]; exact h

/-- R116, R141: while no start can be taken, an evaluation that brings no stop is all of its event. -/
theorem State.evaluate_held {z : State} (before : State) (held : z.startsHeld = true)
    (cool : z.runningCount .cooling ≤ (z.formMode .plain).wantedCool ∨
      (z.formMode .plain).wantedCool = z.mode.wantedCool)
    (heat : z.runningCount .heating ≤ (z.formMode .plain).wantedHeat ∨
      (z.formMode .plain).wantedHeat = z.mode.wantedHeat) :
    let t := (z.evaluate .plain).settleInto before
    t.mode = z.formMode .plain ∧ t.stage.slots = z.stage.slots ∧
      t.stage.order = z.stage.order := by
  have mode := z.evaluateOnce_mode .plain
  obtain ⟨slots, order⟩ := z.evaluateOnce_stage .plain
  have counts := State.runningCount_congr (State.isRunning_congr slots)
  have once : z.evaluate .plain = z.evaluateOnce .plain :=
    State.serveWanted_within 4 (by rw [mode, counts]; exact cool.symm)
      (by rw [mode, counts]; exact heat.symm)
  have held := State.evaluateOnce_keeps State.startsHeld_keeps z .plain held
  obtain ⟨-, kept, stage⟩ := State.settleInto_plant (s := z.evaluateOnce .plain) before held
  rw [once]
  refine ⟨kept.trans mode, ?_, ?_⟩
  · rw [stage]
    exact slots
  · rw [stage]
    exact order

/-! ## No timer loaded anew -/

/-- R123: the changeover timer stopped with its side, and no ECON about to be left. -/
structure ModeLogic.Unturned (side : Side) (m : ModeLogic) : Prop where
  changeover : m.changeover = none
  side : m.changeoverSide = side
  econ : m.mode = .econ → m.cool1 = true ∧ m.econAvailable = true ∧ m.fullOpen ≠ .expired

theorem ModeLogic.Unturned.yieldEnd {m : ModeLogic} {side : Side} (h : m.Unturned side)
    (s : State) : (s.yieldEnd m).Unturned side := by
  have resumed (d : Side) : ({ m with yieldHold := none, mode := d.mode } : ModeLogic).Unturned side :=
    ⟨h.changeover, h.side, fun econ => absurd econ d.mode_ne_econ⟩
  unfold State.yieldEnd
  split
  · exact h
  · split
    · split
      · exact resumed _
      · exact ⟨h.changeover, h.side, h.econ⟩
    · exact h

theorem ModeLogic.Unturned.formUnitMode {m : ModeLogic} {side : Side} (h : m.Unturned side)
    (s : State) : (s.formUnitMode m).Unturned side := by
  have off : ({ m with mode := .off } : ModeLogic).Unturned side := ⟨h.changeover, h.side, nofun⟩
  unfold State.formUnitMode
  split
  · split
    · rename_i econ
      obtain ⟨call, available, fresh⟩ := h.econ econ
      rw [if_neg (by simp [call, available]), if_neg (by simp [State.econSpent, fresh])]
      exact h
    · split
      · exact off
      · exact h
    · split
      · exact off
      · exact h
    all_goals
      split
      · rename_i entry
        simp only [State.econEntry, Bool.and_eq_true] at entry
        refine ⟨h.changeover, h.side, fun _ => ⟨entry.1.1.1.1.1, entry.1.1.1.1.2, ?_⟩⟩
        dsimp only
        split <;> nofun
      · exact h
  · exact off

/-- R121, R123: an evaluation that leaves no ECON loads no timer. -/
theorem State.formMode_unturned {s : State} {side : Side} (outside : s.station.state ≠ .config)
    (h : s.formed.Unturned side) : (s.formMode .plain).Unturned side := by
  have finished := State.formMode_finishes outside
  have same := State.formMode_sameCounts outside
  have demand := s.aimed_sameCalls
  have aimed : s.aimed.Unturned side :=
    have formed := (h.yieldEnd s).formUnitMode s
    ⟨formed.changeover, formed.side, formed.econ⟩
  refine ⟨same.changeover.trans aimed.changeover, same.side.trans aimed.side, fun econ => ?_⟩
  obtain ⟨call, available, fresh⟩ := aimed.econ (finished.econ.1 econ)
  have kept := finished.kept
  refine ⟨(congrArg ModeLogic.cool1 kept).trans call,
    (congrArg ModeLogic.econAvailable kept).trans available, ?_⟩
  rcases finished.open' with stopped | ⟨fullOpen, -⟩
  · rw [stopped]
    nofun
  · rw [fullOpen]
    exact fresh

/-- R116: the heating count is that of its calls unless a yield hold keeps it. -/
def ModeLogic.HeatCounted (m : ModeLogic) : Prop :=
  m.yieldHold ≠ some .heating → m.wantedHeat = m.heat1.toNat + m.heat2.toNat

theorem State.formMode_heatCounted {s : State} (working : s.station.state.working = true)
    (unblocked : (s.formMode .plain).changeover = none) : (s.formMode .plain).HeatCounted := by
  intro free
  have same := State.formMode_sameCounts (State.working_not_config working)
  have counted := s.aimed_wantedOn .heating
  rw [← same.wanted, ← same.first, ← same.second] at counted
  rw [same.hold] at free
  rw [same.changeover] at unblocked
  refine counted.trans ?_
  rw [State.wantedOf, if_neg]
  · rfl
  · simp [working, ModeLogic.blocked, unblocked, free]

/-- R123: no ECON to leave at the expiry. -/
theorem State.unblocked_unturned {s : State} (h : s.mode.mode ≠ .econ) :
    s.unblocked.formed.Unturned s.mode.changeoverSide :=
  ⟨rfl, rfl, fun econ => absurd econ h⟩

theorem State.unblocked_changeover {s : State} (h : s.mode.mode ≠ .econ) :
    (s.unblocked.formMode .plain).changeover = none ∧
      (s.unblocked.formMode .plain).changeoverSide = s.mode.changeoverSide := by
  by_cases config : s.station.state = .config
  · rw [State.formMode_config (s := s.unblocked) config]
    exact ⟨rfl, rfl⟩
  · have kept := State.formMode_unturned (s := s.unblocked) config (State.unblocked_unturned h)
    exact ⟨kept.changeover, kept.side⟩

/-! ## No stage running at the expiry -/

/-- A report of starts alone loads no timer. -/
theorem State.movedMode_started {s before : State}
    (h : ∀ i, before.isRunning i = true → s.isRunning i = true) : s.movedMode before = s.mode := by
  have last (d : Side) : (decide (0 < before.runningCount d) && s.runningCount d == 0) = false := by
    rw [Bool.and_eq_false_iff, decide_eq_false_iff_not, Nat.not_lt, Nat.le_zero,
      beq_eq_false_iff_ne, or_iff_not_imp_right, not_not, State.runningCount_zero_iff,
      State.runningCount_zero_iff]
    intro none i side
    exact Bool.eq_false_iff.2 fun runs => by simpa [h i runs] using none i side
  simp only [State.movedMode, last]
  rfl

/-- The mode as evaluations leave it while the changeover timer rests, and no stage that could stop. -/
structure State.Unstopped (z : State) (side : Side) (t : State) : Prop where
  within : z.Within (fun m => z.formed.SameDemand m ∧ m.Unturned side ∧ m.HeatCounted) t
  settled : ∀ i, t.stageState i ≠ .runFree

/-- A start keeps such a state but for the calls, which the evaluation of its report forms again. -/
theorem State.unstopped_carried {z : State} {side : Side}
    (working : z.station.state.working = true) :
    State.Carried (z.Unstopped side) (z.Unstopped side) := by
  have still {s t : State} (h : z.Unstopped side s) (k : s.Still t) : z.Unstopped side t :=
    ⟨h.within.still k, fun i => by rw [State.stageState_congr k.slots]; exact h.settled i⟩
  refine
    { still := still
      unformed := still
      form := fun s h => ?_
      stop := fun s i free h => absurd free (h.settled i)
      start := fun s t i h selectable k starts => ?_ }
  · obtain ⟨frame, demand, unturned, -⟩ := h.within
    have works : s.station.state.working = true := by rw [frame.station_eq]; exact working
    have outside := State.working_not_config works
    have again := State.formed_again frame demand
    have formed : s.formed.Unturned side := by
      refine ⟨unturned.changeover, unturned.side, fun econ => ?_⟩
      obtain ⟨call, available, fresh⟩ := unturned.econ econ
      exact ⟨(again.cool1.trans demand.cool1.symm).trans call,
        (again.econAvailable.trans demand.econAvailable.symm).trans available, fresh⟩
    have kept := State.formMode_unturned outside formed
    exact ⟨⟨State.stageFrame_trans frame ⟨rfl, rfl⟩,
      again.trans (State.formMode_sameDemand outside .plain), kept,
      State.formMode_heatCounted works kept.changeover⟩, h.settled⟩
  · obtain ⟨frame, demand, unturned, counted⟩ := h.within
    have ready := State.ready_of_selectable selectable
    have mode := State.movedMode_started fun j => k.running (j := j) ready
    refine ⟨⟨State.stageFrame_trans frame (State.stageFrame_trans k.frame ⟨rfl, rfl⟩), ?_⟩,
      fun j => ?_⟩
    · change z.formed.SameDemand (t.movedMode s) ∧ _
      rw [mode]
      refine starts.of_grant (R := fun m => z.formed.SameDemand m ∧ m.Unturned side ∧
        m.HeatCounted) ⟨demand, unturned, counted⟩ ⟨demand.trans {}, ?_, counted⟩
      exact ⟨unturned.changeover, unturned.side, fun econ => absurd econ (sideOf i).mode_ne_econ⟩
    · change t.stageState j ≠ .runFree
      by_cases own : j = i
      · rw [own]
        exact k.own ready
      · rw [State.stageState, k.other own]
        exact h.settled j

theorem State.changeoverExpiry_idle {s : State} (hp : s.powered = true)
    (ht : s.mode.changeover.isSome = true) (notEcon : s.mode.mode ≠ .econ)
    (idle : ∀ i, s.isRunning i = false) :
    ∃ t, exec .changeoverExpiry s = .next t ∧
      t.mode.changeover = none ∧ t.mode.changeoverSide = s.mode.changeoverSide ∧
      t.fault = s.fault ∧ (s.station.state.working = true → t.mode.HeatCounted) ∧
      s.stageFrame t := by
  obtain ⟨fault, frame⟩ := State.evaluated_frame (s := s) (z := s.unblocked) .plain ⟨rfl, rfl⟩ rfl
  by_cases working : s.station.state.working = true
  · have outside := State.working_not_config working
    have kept := State.formMode_unturned (s := s.unblocked) outside
      (State.unblocked_unturned notEcon)
    have carried := State.unstopped_carried (z := s.unblocked) (side := s.mode.changeoverSide)
      working
    obtain ⟨⟨-, -, unturned, counted⟩, -⟩ := carried.settleInto s (carried.evaluate
      ⟨⟨⟨rfl, rfl⟩, State.formMode_sameDemand (s := s.unblocked) outside .plain, kept,
        State.formMode_heatCounted (s := s.unblocked) working kept.changeover⟩,
        fun i => State.not_runFree (idle i)⟩)
    exact ⟨_, State.changeoverExpiry_runs hp ht, unturned.changeover, unturned.side, fault,
      fun _ => counted, frame⟩
  · have none (d : Side) : s.runningCount d = 0 :=
      (s.runningCount_zero_iff d).2 fun i _ => idle i
    have held : s.startsHeld = true :=
      (s.startsHeld_iff).2 (.inr (Bool.eq_false_iff.2 working))
    obtain ⟨mode, -, -⟩ := State.evaluate_held (z := s.unblocked) s held
      (.inl ((Nat.le_of_eq (none .cooling)).trans (Nat.zero_le _)))
      (.inl ((Nat.le_of_eq (none .heating)).trans (Nat.zero_le _)))
    obtain ⟨changeover, side⟩ := State.unblocked_changeover notEcon
    refine ⟨_, State.changeoverExpiry_runs hp ht, ?_, ?_, fault, fun on => absurd on working,
      frame⟩
    · rw [mode]
      exact changeover
    · rw [mode]
      exact side

/-! ## ECON left with the zone temperature lost -/

/-- R121, R123: ECON without its call is left and the timer loaded for cooling. -/
theorem State.unblocked_lost {s : State} (working : s.station.state.working = true)
    (econ : s.mode.mode = .econ) (free : s.mode.yieldHold = none)
    (lost : s.zoneReading.1 = none) :
    let m := s.unblocked.formMode .plain
    m.changeover = some changeoverTime ∧ m.changeoverSide = .cooling ∧ m.mode.side = none ∧
      m.fullOpen = .stopped := by
  have outside : s.unblocked.station.state ≠ .config := State.working_not_config working
  obtain ⟨-, -, call, -⟩ := State.formed_vacant (s := s.unblocked) lost
  have aimed : s.unblocked.aimed = s.unblocked.formWanted
      { s.unblocked.formed.loadChangeover .cooling with mode := .off } := by
    rw [State.aimed_free (s := s.unblocked) free,
      State.formUnitMode_uncalled (s := s.unblocked) (m := s.unblocked.formed) econ call working]
  have same := State.formMode_sameCounts outside
  have side : (s.unblocked.formMode .plain).mode.side = none := by
    rw [(State.formMode_named outside).1, aimed]
    rfl
  refine ⟨same.changeover.trans (by rw [aimed]; rfl), same.side.trans (by rw [aimed]; rfl), side, ?_⟩
  rw [State.formMode_fullOpen outside, if_neg]
  rintro ⟨still, -⟩
  rw [still] at side
  cases side

/-! ## The yield hold at a damper timer expiry -/

/-- R125: a hold that an opposite entry keeps. -/
theorem State.damperTimerExpiry_yields {s : State} {d : Side} (hp : s.powered = true)
    (ht : s.mode.damperTimer.isSome = true) (working : s.station.state.working = true)
    (hold : s.mode.yieldHold = some d) (level : (s.formDemand s.mode).level ≠ 7)
    (opposed : s.opposed d = true) :
    ∃ t, exec .damperTimerExpiry s = .next t ∧ t.mode.yieldHold = some d ∧ t.wanted d = 0 ∧
      t.fault = s.fault ∧ s.stageFrame t := by
  have outside : s.timed.station.state ≠ .config := State.working_not_config working
  have formed : s.timed.formed.level ≠ 7 := level
  have stands : s.timed.yieldEnds s.timed.formed d = false := by
    have opposed : s.timed.opposed d = true := opposed
    simp [State.yieldEnds, formed, opposed]
  have first : (s.timed.formMode .damperStep).Yielding d := by
    have plain := State.formMode_yielding outside hold stands
    rw [State.formMode_damperStep outside]
    exact ⟨plain.hold, (ModeLogic.wantedOn_damperStep _ d).trans plain.idle⟩
  obtain ⟨t, runs, mode, fault, frame⟩ := State.damperTimerExpiry_lasts hp ht
    (State.yielding_lasts outside level opposed) first
  exact ⟨t, runs, mode.hold, (t.wanted_eq d).trans mode.idle, fault, frame⟩

/-- R125: what ends a hold. -/
theorem State.yieldEnds_of {s : State} {d : Side} (working : s.station.state.working = true)
    (h : (s.formDemand s.mode).level = 7 ∨
      ∀ n : Nat, (s.entry n).state.heard = true → (s.entry n).mark = true →
        ∀ r ∈ (s.entry n).report,
          ¬(if d = .cooling then r.unitMode = 4 else r.unitMode = 3 ∨ r.unitMode = 2)) :
    s.yieldEnds s.formed d = true := by
  rw [State.yieldEnds, working, Bool.true_and, Bool.or_eq_true, beq_iff_eq, Bool.not_eq_true']
  refine h.imp id fun alone => Bool.eq_false_iff.2 fun opposed => ?_
  obtain ⟨n, heard, mark, r, report, opposes⟩ := (s.opposed_iff d).1 opposed
  exact alone n heard mark r report opposes

/-! ## The obligation -/

/-- Settles O41: each timer's first evaluation brings its mode about; the evaluations that follow, the
reports of stops and starts and the grants keep it. -/
theorem modeTimersExpire : Obligations.ModeTimersExpire := by
  refine ⟨fun s hp ht notEcon idle => ?_,
    fun s z d hp ht working econ damper free available zone low call => ?_,
    fun s z d hp ht working econ call free available zone low warm below => ?_,
    fun s m hp ht held hm cool heat => ?_,
    fun s z hp ht working resting free zone call low available idle unblocked damper least alone => ?_,
    fun s d n r hp ht working hold level heard mark report opposes => ?_,
    fun s d hp ht working hold alone low ends => ?_⟩
  · exact State.changeoverExpiry_idle hp ht notEcon idle
  · have errs : s.Errs .cooling (z - s.coolSetpoint) := ⟨⟨z, zone, rfl⟩, low, by omega⟩
    obtain ⟨t, runs, serving, fault, frame⟩ := State.fullOpenExpiry_lasts hp ht
      (State.serving_lasts (z := s.openedFully) working (errs.congr ⟨rfl, rfl⟩) call)
      (State.openedFully_serves working available errs call econ free damper)
    exact ⟨t, runs, serving.mode, serving.fullOpen, fault, frame⟩
  · have errs : s.openedFully.Errs .cooling (z - s.coolSetpoint) := ⟨⟨z, zone, rfl⟩, low, warm⟩
    have unspent (damper : Nat) : ¬(FullOpen.expired = .expired ∧ damper = 1000 ∧
        5 ≤ z - s.coolSetpoint) := by omega
    obtain ⟨t, runs, econ, fault, frame⟩ := State.fullOpenExpiry_lasts hp ht
      (State.economizing_lasts (z := s.openedFully) working available errs (unspent s.mode.damper))
      (State.formMode_stays (s := s.openedFully) working available errs econ free (.inr call)
        (unspent s.mode.damper))
    exact ⟨t, runs, econ.mode, econ.fullOpen, fault, frame⟩
  · subst hm
    obtain ⟨mode, slots, order⟩ := State.evaluate_held (z := s.unblocked) s held cool heat
    exact ⟨_, State.changeoverExpiry_runs hp ht, mode, slots, order, State.unblocked_changeover,
      State.unblocked_lost, State.evaluated_frame (s := s) .plain ⟨rfl, rfl⟩ rfl⟩
  · obtain ⟨t, runs, econ, pin, waiting, fault, frame⟩ := State.damperTimerExpiry_enters hp ht
      (e := z - s.coolSetpoint)
      { working, available, call, resting, free, idle, unblocked
        errs := ⟨⟨z, zone, rfl⟩, low, by omega⟩
        alone := State.neighbourHeats_none alone } damper least
    exact ⟨t, runs, econ.mode, econ.idle .cooling, econ.fan, pin, econ.fullOpen, waiting, fault,
      frame⟩
  · have opposed : s.opposed d = true :=
      (s.opposed_iff d).2 ⟨n, heard, mark, r, report, opposes⟩
    exact State.damperTimerExpiry_yields hp ht working hold level opposed
  · have ends : s.yieldEnds s.formed d = true := State.yieldEnds_of working ends
    obtain ⟨free, fault, frame⟩ := State.damperTimerExpiry_free working hold ends
    refine ⟨_, State.damperTimerExpiry_runs hp ht, free, fun runs clear z zone call => ?_, fault,
      frame⟩
    have errs : s.Errs d _ := ⟨⟨z, ?_, rfl⟩, low, by omega⟩
    · obtain ⟨⟨-, serving, counted⟩, -⟩ :=
        State.damperTimerExpiry_resumes working hold ends errs call runs alone clear
      rw [State.wanted_eq, serving.mode, counted.count]
      cases d <;> exact ⟨rfl, rfl⟩
    · have same := (State.demand_lasts (z := s.timed) (State.working_not_config working)).settled
        (s := s) ⟨rfl, rfl⟩ rfl (State.formMode_sameDemand (s := s.timed)
          (State.working_not_config working) .damperStep)
      exact same.1.zoneTemp.symm.trans zone

end Sys2Proof.Machine

/-! # No command's effect starts a stage but the grant of a claim (R70, R83, R143)

Every other start is one the end of an event takes (`State.serveStarts`): the effect of a command, up to
there, runs at most the stages it found running. -/

namespace Sys2Proof.Machine

namespace State.Below

variable {s t : State}

/-! ## The plant -/

/-- What writes neither the record nor a slot. -/
theorem same (h : s.Below t) {u : State} (config : u.config = t.config := by rfl)
    (slots : u.stage.slots = t.stage.slots := by rfl) : s.Below u :=
  ⟨config.trans h.config, fun i hi => h.runs i (State.isRunning_congr slots i ▸ hi)⟩

theorem raise (h : s.Below t) (c : Category) : s.Below (t.raise c) :=
  h.same (by simp) (by simp)

theorem request (h : s.Below t) (roll : Bool) : s.Below (t.requestState roll) :=
  h.same (by simp) (by simp)

theorem evaluated (h : s.Below t) (cause : EvalCause) : s.Below (t.evaluate cause) :=
  State.evaluate_keeps s.below_keeps t cause h

theorem moved (h : s.Below t) (before : State) : s.Below (t.stagesMoved before) :=
  State.stagesMoved_keeps s.below_keeps t before h

theorem stop (h : s.Below t) (i : Slot) : s.Below (t.stopSlot i) := s.below_keeps.stop t i h

theorem trip (h : s.Below t) (i : Slot) (cause : Category) : s.Below (t.trip i cause) := by
  refine ⟨(t.trip_frame i cause).config_eq.trans h.config, fun j hj => h.runs j ?_⟩
  rw [State.isRunning_trip, Bool.and_eq_true] at hj
  exact hj.1

/-- A slot written that does not run, or ran before. -/
theorem setSlot (h : s.Below t) {i : Slot} {r : Stage}
    (runs : r.state.running = true → t.isRunning i = true) : s.Below (t.setSlot i r) := by
  refine ⟨h.config, fun j hj => h.runs j ?_⟩
  rw [State.isRunning_setSlot] at hj
  split at hj
  · rename_i own
    rw [own]
    exact runs hj
  · exact hj

/-- A slot written that does not run. -/
theorem setIdle (h : s.Below t) {i : Slot} {r : Stage} (idle : r.state.running = false := by rfl) :
    s.Below (t.setSlot i r) :=
  h.setSlot fun runs => absurd runs (by simp [idle])

theorem coilDelivered (h : s.Below t) (n : Circuit) : s.Below (t.coilDelivered n) := by
  have clear : s.Below { t with stage := t.stage.setFreeze n none } :=
    h.same rfl (by cases n <;> rfl)
  unfold State.coilDelivered
  split
  · split
    · exact h.same (t.testFreeze_frame n).config_eq (t.testFreeze_slots n).1
    · exact clear
  · exact clear

theorem fanProveOn (h : s.Below t) : s.Below t.fanProveOn := by
  unfold State.fanProveOn
  split <;> exact h.same

theorem fanProveOff (h : s.Below t) : s.Below t.fanProveOff := by
  unfold State.fanProveOff
  split <;> exact h.same

theorem highPressure (h : s.Below t) (n : Circuit) (cause : Category) :
    s.Below (t.highPressure n cause) := by
  unfold State.highPressure
  split
  · exact h.trip _ cause
  · exact h.raise cause

theorem lowPressure (h : s.Below t) (n : Circuit) (cause : Category) :
    s.Below (t.lowPressure n cause) := by
  unfold State.lowPressure
  split
  · exact h.trip _ cause
  · exact h.trip _ cause
  · exact h

theorem proveHeat (h : s.Below t) (i : Slot) : s.Below (t.proveHeat i) := by
  unfold State.proveHeat
  split
  · rename_i proving
    exact h.setSlot fun _ => by rw [State.isRunning, proving]; rfl
  · exact h

theorem losesHeatProve (h : s.Below t) (i : Slot) : s.Below (t.losesHeatProve i) := by
  unfold State.losesHeatProve
  split
  · exact h.trip i _
  · exact h.trip i _
  · exact h

theorem stageActivated (h : s.Below t) (r : InputRole) : s.Below (t.stageActivated r) := by
  cases r with
  | fanProve => exact h.fanProveOn
  | hp1 | hp2 => exact (h.highPressure _ _).moved t
  | lp1 | lp2 => exact (h.lowPressure _ _).moved t
  | heatProve => exact State.moveAll_keeps s.below_keeps _ (fun _ i k => k.proveHeat i) _ t h
  | occ | smoke | filter => exact h

theorem stageDeactivated (h : s.Below t) (r : InputRole) : s.Below (t.stageDeactivated r) := by
  cases r with
  | fanProve => exact h.fanProveOff
  | heatProve => exact State.moveAll_keeps s.below_keeps _ (fun _ i k => k.losesHeatProve i) _ t h
  | occ | smoke | filter | hp1 | hp2 | lp1 | lp2 => exact h

theorem failFanProof (h : s.Below t) : s.Below t.failFanProof := by
  have failed : s.Below { t with stage.fanProof := .failed, stage.fanProofTimer := none } := h.same
  unfold State.failFanProof
  exact (State.moveAll_keeps s.below_keeps _ s.below_keeps.stop allSlots _ failed).raise .fanProve

theorem freeSlot (h : s.Below t) {i : Slot} (runs : t.isRunning i = true) :
    s.Below (t.freeSlot i) :=
  State.serveWanted_keeps s.below_keeps 4 _ _ (State.moveEach_keeps s.below_keeps _
    s.below_keeps.stop _ _ (State.reportMove_keeps s.below_keeps _ t (h.setSlot fun _ => runs)))

/-! ## The sensors -/

theorem deliverResult (h : s.Below t) (ch : Channel) : s.Below (t.deliverResult ch) := by
  have formed := h.evaluated .plain
  unfold State.deliverResult
  split
  · exact h.coilDelivered _
  · dsimp only
    split
    · unfold State.heatLimit
      split
      · split
        · exact State.moveAll_keeps s.below_keeps _ (fun _ i k => k.trip i .heatLimit) _ _ formed
        · exact formed
      · exact formed
    · exact formed

theorem deliverChanges (h : s.Below t) (before : State) : s.Below (t.deliverChanges before) := by
  unfold State.deliverChanges
  induction allChannels generalizing t with
  | nil => exact h
  | cons ch rest ih =>
    rw [List.foldl_cons]
    refine ih ?_
    unfold State.deliverChange
    split
    · exact h
    · split
      · exact h.coilDelivered _
      · exact h.evaluated .plain

theorem referenceCheck (h : s.Below t) : s.Below t.referenceCheck := by
  unfold State.referenceCheck
  dsimp only
  split
  · split
    · exact deliverChanges (raise h.same .refCheck) _
    · exact h.same
  · split
    · exact deliverChanges h.same _
    · exact h.same

theorem complete (h : s.Below t) (c : Conversion) (code : BitVec 12) :
    s.Below (t.complete c code) := by
  cases c with
  | refHigh => exact h.same
  | refLow => exact referenceCheck h.same
  | external ch =>
    simp only [State.complete, State.externalComplete]
    split
    · exact h
    · split
      · exact h.same
      · refine deliverResult ?_ ch
        split
        · exact raise h.same _
        · exact h.same

/-! ## Station control -/

theorem station (h : s.Below t) (new : StationState) (cause : IsolationCause) :
    s.Below (t.setStation new cause) :=
  h.same (t.setStation_config new cause) (by rw [t.setStation_stage])

/-- R7 and the evaluation at the end of an entry. -/
theorem entryEnd (h : s.Below t) (before : State) :
    s.Below (t.admissionIdle.requestState.entered before) :=
  State.entryEnd_keeps s.below_keeps t before (h.trans t.admissionIdle_below)

theorem isolate (h : s.Below t) (cause : IsolationCause) : s.Below (t.enterIsolated cause) :=
  t.enterIsolated_of cause (fun _ k => k.raise _)
    (entryEnd (State.stopToCap_keeps s.below_keeps _ (h.station _ _)) t)

theorem shutdown (h : s.Below t) : s.Below t.enterShutdown :=
  entryEnd (State.stopAll_keeps s.below_keeps _ (h.station _ _)) t

theorem work (h : s.Below t) (new : StationState) : s.Below (t.enterWorking new) :=
  (h.station _ _).entryEnd t

theorem leave (h : s.Below t) : s.Below t.enterLeft := by
  have stopped : s.Below (t.setStation .left .none).stopAll :=
    State.stopAll_keeps s.below_keeps _ (h.station _ _)
  have idle := stopped.trans (State.admissionIdle_below _)
  rw [State.enterLeft_eq, State.leftQuietly]
  generalize (t.setStation .left .none).stopAll.admissionIdle = u at idle
  exact State.entered_keeps s.below_keeps _ t idle.same

theorem join (h : s.Below t) (cfg : ConfigRecord) : s.Below (t.enterJoining cfg) := by
  have quiet : s.Below (t.joiningQuietly cfg) :=
    ⟨h.config, fun i hi => absurd hi (by
      rw [show (t.joiningQuietly cfg).isRunning i = false from
        StageCtl.joining_running t.stage cfg i]
      nofun)⟩
  rw [State.enterJoining_eq]
  exact (quiet.request true).evaluated .plain

theorem restart (h : s.Below t) : s.Below t.doRestart := by
  have quiet : s.Below t.restarted :=
    ⟨h.config, fun i hi => absurd hi (by
      rw [show t.restarted.isRunning i = false from StageCtl.restart_running t.stage i]
      nofun)⟩
  rw [State.doRestart_eq]
  split
  · exact quiet.join _
  · exact quiet

theorem returnToSharing (h : s.Below t) (holds : Bool) : s.Below (t.returnToSharing holds) := by
  unfold State.returnToSharing
  split
  · exact h.work _
  · exact h

theorem leaveShutdown (h : s.Below t) : s.Below t.leaveShutdown := by
  unfold State.leaveShutdown
  repeat' split
  · exact h.isolate _
  · exact h.work _
  · exact h.isolate _
  · exact h.isolate _
  · exact h.work _

theorem joinDecision (h : s.Below t) : s.Below t.joinDecision := by
  unfold State.joinDecision
  repeat' split
  · exact h.shutdown
  · exact h.work _
  · exact h.isolate _
  · exact h.work _
  · exact h.isolate _

theorem smokeActive (h : s.Below t) : s.Below t.smokeActive := by
  unfold State.smokeActive
  split
  · exact h.shutdown
  · exact h

theorem dropReported (h : s.Below t) : s.Below t.dropReported := by
  unfold State.dropReported
  split
  · refine raise ?_ .linkTx
    cases t.station.state with
    | sharing => exact h.isolate .transmit
    | isolated =>
      dsimp only
      split
      · exact h.same
      · exact h
    | config | joining | solo | shutdown | left => exact h
  · exact h

theorem duplicateFound (h : s.Below t) : s.Below t.duplicateFound := by
  unfold State.duplicateFound
  cases t.station.state with
  | joining | sharing | solo => exact raise (isolate h.same .duplicate) _
  | isolated | shutdown => exact raise h.same _
  | left | config => exact h

/-! ## Input events and frames -/

theorem modeHears (h : s.Below t) (r : InputRole) : s.Below (t.modeHears r) := by
  unfold State.modeHears
  split
  · exact h.evaluated .plain
  · exact h

theorem deliverInput (h : s.Below t) (r : InputRole) (e : InputEvent) :
    s.Below (t.deliverInput r e) := by
  cases e with
  | none => exact h
  | activated =>
    have heard := (h.stageActivated r).modeHears r
    simp only [State.deliverInput]
    split
    · exact heard.smokeActive
    · exact heard
  | deactivated =>
    have heard := (h.stageDeactivated r).modeHears r
    simp only [State.deliverInput, State.smokeCleared]
    split
    · split
      · exact heard.leaveShutdown
      · exact heard
    · exact heard
  | settled active =>
    simp only [State.deliverInput]
    split
    · exact h.smokeActive
    · exact h

theorem entryChanged (h : s.Below t) (marked : Bool) : s.Below (t.entryChanged marked) := by
  unfold State.entryChanged
  split
  · exact h.evaluated .neighbourUpdate
  · exact h

/-- An entry written, with the ceiling and the neighbour update it brings. -/
theorem entryTaken (h : s.Below t) (n : Nat) (e : Entry) (marked : Bool) :
    s.Below (((t.setEntry n e).recomputeCeiling).entryChanged marked) := by
  refine entryChanged ?_ marked
  unfold State.recomputeCeiling
  dsimp only
  split
  · exact raise (h.same (by simp) (by simp)) _
  · exact h.same (by simp) (by simp)

/-- A frame of another station, completed, at the receiver and at station control. -/
theorem hearFrame (h : s.Below t) : s.Below (State.hearOther { t with link := t.link.complete }) :=
  returnToSharing h.same _

theorem takeState (h : s.Below t) (n : Nat) (f : StateFrame) : s.Below (t.takeState n f) := by
  have taken := fun e marked => h.hearFrame.entryTaken n e marked
  unfold State.takeState
  dsimp only
  split
  · exact (taken _ _).request false
  · exact taken _ _

theorem takeLeave (h : s.Below t) (n : Nat) : s.Below (t.takeLeave n) := by
  unfold State.takeLeave
  dsimp only
  split
  · exact h.hearFrame
  · exact h.hearFrame.entryTaken n _ _

theorem takeShed (h : s.Below t) (n : Nat) (call : ShedCall) : s.Below (t.takeShed n call) := by
  have heard := h.hearFrame
  simp only [State.takeShed, State.respondShed]
  split
  · split
    · split
      · exact (heard.stop _).moved _
      · exact heard
    · exact heard
  · exact heard

theorem failAttempt (h : s.Below t) (w : WireFrame) : s.Below (t.failAttempt w) := by
  unfold State.failAttempt
  dsimp only
  split
  · exact h.same
  · split
    · exact h.same
    · have dropped : s.Below (State.dropReported
          { t with link := (t.link.release.endCurrent w.roll).countDrop }) := dropReported h.same
      exact dropped.same

end State.Below

end Sys2Proof.Machine

/-! # A compressor and a heat stage never run together (R151)

Starts alone can break it, and a start has its interlocks: those of one side fail while the other runs. -/

namespace Sys2Proof.Machine

/-! ## The interlocks (R140) -/

/-- R140, R151: the start interlocks hold only while nothing of the other side runs. -/
theorem State.interlocks_apart {s : State} {i j : Slot} (h : s.interlocks i = true)
    (other : sideOf j ≠ sideOf i) : s.isRunning j = false := by
  have idle : s.runningCount (sideOf j) = 0 := by
    cases i <;> simp only [State.interlocks, Bool.and_eq_true, beq_iff_eq] at h <;>
      cases j <;> simp_all [sideOf]
  exact (s.runningCount_zero_iff (sideOf j)).1 idle j rfl

theorem State.interlocks_of_selectable {s : State} {i : Slot} (h : s.selectable i = true) :
    s.interlocks i = true := by
  simp only [State.selectable, Bool.and_eq_true] at h
  exact h.1.2

theorem State.interlocks_of_stillWanted {s : State} {i : Slot} (h : s.stillWanted i = true) :
    s.interlocks i = true := by
  simp only [State.stillWanted, Bool.and_eq_true] at h
  exact h.2

/-! ## The law -/

theorem State.oneSide_iff (s : State) : s.oneSide = true ↔
    ∀ i j, s.isRunning i = true → s.isRunning j = true → sideOf i = sideOf j := by
  simp only [State.oneSide, Bool.or_eq_true, beq_iff_eq, State.runningCount_zero_iff]
  constructor
  · intro h i j hi hj
    by_contra apart
    rcases h with idle | idle
    · cases hs : sideOf i <;> cases ht : sideOf j <;> simp_all
    · cases hs : sideOf i <;> cases ht : sideOf j <;> simp_all
  · intro h
    by_contra both
    simp only [not_or, not_forall, Bool.not_eq_false] at both
    obtain ⟨⟨i, cools, hi⟩, j, heats, hj⟩ := both
    have same := h i j hi hj
    rw [cools, heats] at same
    cases same

theorem State.Below.oneSide {s t : State} (b : s.Below t) (h : s.oneSide = true) :
    t.oneSide = true :=
  t.oneSide_iff.2 fun i j hi hj => s.oneSide_iff.1 h i j (b.runs i hi) (b.runs j hj)

/-- R151: a start of a slot with its interlocks, every other slot as it was. -/
theorem State.oneSide_started {s t : State} {i : Slot} (locks : s.interlocks i = true)
    (other : ∀ j, j ≠ i → t.slot j = s.slot j) : t.oneSide = true := by
  have onSide {j : Slot} (hj : t.isRunning j = true) : sideOf j = sideOf i := by
    by_cases own : j = i
    · rw [own]
    · by_contra apart
      have idle := State.interlocks_apart locks apart
      rw [State.isRunning, State.stageState, other j own] at hj
      exact absurd hj (Bool.eq_false_iff.1 idle)
  exact t.oneSide_iff.2 fun j k hj hk => (onSide hj).trans (onSide hk).symm

theorem State.oneSide_keeps : State.Keeps (fun s => s.oneSide = true) where
  mode _ _ h := h
  denials _ h := h
  fan s on h := (s.below_keeps.fan s on (.refl s)).oneSide h
  request s h := (s.below_keeps.request s (.refl s)).oneSide h
  stop s i h := (s.below_keeps.stop s i (.refl s)).oneSide h

theorem State.oneSide_keepsStarts : State.KeepsStarts (fun s => s.oneSide = true) where
  toKeeps := State.oneSide_keeps
  select _ h := h
  decide _ _ _ _ selectable _ _ d :=
    State.oneSide_started (State.interlocks_of_selectable selectable) fun _ => d.other

theorem State.oneSide_settled {s : State} (before : State) (h : s.oneSide = true) :
    (s.settleInto before).oneSide = true := by
  have started : (s.settleStarts before).oneSide = true :=
    State.settleStarts_keeps State.oneSide_keepsStarts s before h
  rw [State.settleInto]
  generalize s.settleStarts before = t at started
  exact State.Below.oneSide (.same (.refl t)) started

/-- R80, R83: a claim is granted only while its stage is still wanted, so with its interlocks. -/
theorem State.oneSide_settleClaim {s : State} (c : OpenClaim) (h : s.oneSide = true) :
    (s.settleClaim c).oneSide = true := by
  have closed : s.Below s.closeClaim :=
    .same (.refl s) s.closeClaim_frame.config_eq (by rw [s.closeClaim_stage])
  have ready : s.Below (s.relinquished c.slot) := closed.setIdle
  cases wanted : s.stillWanted c.slot with
  | false =>
    rw [State.settleClaim_withdraws wanted]
    exact (ready.moved s).oneSide h
  | true =>
    cases fits : s.claimFits c with
    | false =>
      rw [State.settleClaim_denies wanted fits]
      exact (State.Below.moved (ready.same) s).oneSide h
    | true =>
      rw [State.settleClaim_grants wanted fits]
      refine State.stagesMoved_keeps State.oneSide_keeps _ s
        (State.oneSide_started (State.interlocks_of_stillWanted wanted) fun j other => ?_)
      rw [State.grant, State.slot, State.grantMode_stage]
      refine ((State.startSlot_slot _ _ j).trans (if_neg other)).trans ?_
      exact State.slot_congr (by rw [← s.closeClaim_stage]) j

/-! ## The commands -/

theorem State.oneSide_event {s : State} {occurs : Bool} {effect : State → State}
    (h : s.oneSide = true) (he : occurs = true → s.Below (effect s)) :
    Gives (fun t => t.oneSide = true) (s.event occurs effect) :=
  gives_ite h fun both =>
    State.oneSide_settled s ((he (Bool.and_eq_true_iff.1 both).2).oneSide h)

/-- A command that brings no start. -/
theorem State.oneSide_kept {s t : State} {b : Bool} (h : s.oneSide = true) (below : s.Below t) :
    Gives (fun t => t.oneSide = true) (.next (if b then t else s)) :=
  gives_ite h fun _ => below.oneSide h

theorem State.oneSide_requested {s : State} {handle : State → State} (h : s.oneSide = true)
    (hr : ∀ t : State, t.oneSide = true → (handle t).oneSide = true) :
    Gives (fun t => t.oneSide = true) (s.request handle) := by
  refine gives_ite h fun _ => ?_
  split
  · exact h
  · exact hr _ h

theorem State.oneSide_answered {s : State} (code : Nat) (result : ServiceResult) (payload : List Byte)
    (h : s.oneSide = true) : (s.answer code result payload).oneSide = true := h

/-- R158, R22, R10: the requests that reach the plant. -/
theorem State.oneSide_handled {s t : State} (code : Nat) (result : ServiceResult)
    (h : s.oneSide = true) (below : s.Below t) :
    ((t.settleInto s).answer code result).oneSide = true :=
  State.oneSide_answered code result [] (State.oneSide_settled s (below.oneSide h))

theorem execUnlock_oneSide (code : Byte) {s : State} (h : s.oneSide = true) :
    Gives (fun t => t.oneSide = true) (execUnlock code s) := by
  refine State.oneSide_requested h fun s h => ?_
  split
  · exact State.oneSide_answered _ _ _ h
  · split
    · split
      · exact State.oneSide_handled 0x21 .ok h ((State.Below.refl s).setIdle.moved s)
      · exact State.oneSide_answered _ _ _ h
    · exact State.oneSide_answered _ _ _ h

theorem execLeave_oneSide {s : State} (h : s.oneSide = true) :
    Gives (fun t => t.oneSide = true) (execLeave s) := by
  refine State.oneSide_requested h fun s h => ?_
  have left := State.oneSide_handled 0x31 .ok h (State.Below.refl s).leave
  cases s.station.state with
  | sharing | isolated | solo | shutdown => exact left
  | config | joining | left => exact State.oneSide_answered _ _ _ h

theorem execStart_oneSide {s : State} (h : s.oneSide = true) :
    Gives (fun t => t.oneSide = true) (execStart s) := by
  refine State.oneSide_requested h fun s h => ?_
  split
  · exact State.oneSide_handled 0x02 .ok h ((State.Below.refl s).join _)
  · exact State.oneSide_answered _ _ _ h

theorem execClear_oneSide (set : BitVec 24) {s : State} (h : s.oneSide = true) :
    Gives (fun t => t.oneSide = true) (execClear set s) := by
  refine State.oneSide_requested h fun s h => ?_
  split
  · exact State.oneSide_answered _ _ _ h
  · have all (cs : List Category) {t : State} (b : s.Below t) : s.Below (t.raiseAll cs) := by
      unfold State.raiseAll
      induction cs generalizing t with
      | nil => exact b
      | cons c cs ih => exact ih (b.raise c)
    have cleared : s.Below (s.clearFaults set) := by
      unfold State.clearFaults
      split
      · exact .refl s
      · exact all _ (State.Below.same (.refl s))
    exact cleared.oneSide h

/-- R202: a record moves no stage. -/
theorem execConfigure_oneSide (record : List Byte) {s : State} (h : s.oneSide = true) :
    Gives (fun t => t.oneSide = true) (execConfigure record s) := by
  refine State.oneSide_requested h fun s h => ?_
  repeat' split
  all_goals exact h

/-- R151: no command has a compressor and a heat stage run together. -/
theorem exec_oneSide (c : Instr) {s : State} (h : s.oneSide = true) :
    Gives (fun t => t.oneSide = true) (exec c s) := by
  have b := State.Below.refl s
  unfold Machine.exec
  cases c with
  | powerUp => exact gives_next rfl
  | supplyOutOfRange => exact gives_next h
  | restart => exact State.oneSide_event h fun _ => b.restart
  | joinExpiry => exact State.oneSide_event h fun _ => b.same.joinDecision
  | silenceExpiry =>
    refine State.oneSide_event h fun _ => ?_
    dsimp only
    split
    · exact b.same.isolate .silent
    · exact b.same
  -- Service requests
  | configure record => exact execConfigure_oneSide record h
  | start => exact execStart_oneSide h
  | clear set => exact execClear_oneSide set h
  | unlock code => exact execUnlock_oneSide code h
  | leave => exact execLeave_oneSide h
  | readStatus | readFaults | serviceRestart => exact State.oneSide_requested h fun _ h => h
  | readEntry n | linkTest mask count =>
    refine State.oneSide_requested h fun s h => ?_
    repeat' split
    all_goals exact h
  | rollcall =>
    refine State.oneSide_requested h fun s h => ?_
    split
    · exact ((State.Below.refl s).request true).oneSide h
    · exact h
  | unknownRequest code payload =>
    change Gives _ (execUnknownRequest code payload s)
    unfold execUnknownRequest
    split
    · exact gives_next h
    · exact State.oneSide_requested h fun _ h => h
  | serviceResponseEnd =>
    change Gives _ (execServiceResponseEnd s)
    unfold execServiceResponseEnd
    split
    · exact gives_next h
    · split
      · exact State.oneSide_event h fun _ => b.same.restart
      · exact State.oneSide_kept h b.same
  -- Frames and attempts
  | stateReceived frame =>
    change Gives _ (execStateReceived frame s)
    unfold execStateReceived
    split
    · exact State.oneSide_event h fun _ => b.takeState _ _
    · exact gives_next h
  | shedReceived frame =>
    change Gives _ (execShedReceived frame s)
    unfold execShedReceived
    split
    · exact State.oneSide_event h fun _ => b.takeShed _ _
    · exact gives_next h
  | leaveReceived frame =>
    change Gives _ (execLeaveReceived frame s)
    unfold execLeaveReceived
    split
    · exact State.oneSide_event h fun _ => b.takeLeave _
    · exact gives_next h
  | ownEcho frame =>
    change Gives _ (execOwnEcho frame s)
    unfold execOwnEcho
    split
    · exact State.oneSide_kept h b.same
    · exact gives_next h
  | duplicateDetected frame =>
    change Gives _ (execDuplicateDetected frame s)
    unfold execDuplicateDetected
    split
    · exact State.oneSide_event h fun _ => b.same.duplicateFound
    · exact gives_next h
  | attemptFailed cause =>
    change Gives _ (execAttemptFailed cause s)
    unfold execAttemptFailed
    split
    · exact State.oneSide_event h fun _ => b.failAttempt _
    · exact gives_next h
  | frameSent =>
    change Gives _ (execFrameSent s)
    unfold execFrameSent
    split
    · exact State.oneSide_event h fun _ => b.same.returnToSharing _
    · exact gives_next h
  | reportTimerExpiry => exact State.oneSide_kept h (b.same.request false)
  -- Entries of the roof table
  | freshnessExpiry n => exact State.oneSide_event h fun _ => b.entryTaken n _ _
  | claimHoldExpiry n =>
    exact State.oneSide_event h fun _ => (b.same (by simp) (by simp)).entryChanged _
  -- Timers of the Admission Unit and the Mode Logic
  | settleExpiry =>
    change Gives _ (execSettleExpiry s)
    unfold execSettleExpiry
    split
    · exact gives_ite h fun _ => State.oneSide_settled s (State.oneSide_settleClaim _ h)
    · exact gives_next h
  | changeoverExpiry | offDelayExpiry | fullOpenExpiry | damperTimerExpiry =>
    exact State.oneSide_event h fun _ => b.same.evaluated _
  | holdoffExpiry | shedWaitExpiry => exact State.oneSide_event h fun _ => b.same
  -- Timers of the Stage Controller
  | fanProofExpiry =>
    refine State.oneSide_event h fun _ => ?_
    split
    · split
      · exact b.same
      · exact b.failFanProof
    · exact b.failFanProof
    all_goals exact b
  | proveExpiry i =>
    refine State.oneSide_event h fun hi => ?_
    simp only [Bool.and_eq_true, beq_iff_eq] at hi
    split
    · exact (b.trip i _).moved s
    · exact (b.setSlot fun _ => by rw [State.isRunning, hi.2]; rfl).moved s
  | minRunExpiry i =>
    refine State.oneSide_event h fun hi => ?_
    simp only [Bool.and_eq_true, beq_iff_eq] at hi
    exact b.freeSlot (by rw [State.isRunning, hi.2]; rfl)
  | minOffExpiry i | tripDelayExpiry i =>
    refine State.oneSide_event h fun _ => State.Below.moved ?_ s
    exact b.setIdle
  | interStageExpiry => exact State.oneSide_event h fun _ => b.same
  | freezeExpiry n =>
    have thawed : s.Below { s with stage := s.stage.setFreeze n none } :=
      b.same rfl (by cases n <;> rfl)
    exact State.oneSide_event h fun _ => (thawed.trip _ _).moved s
  -- Conversions and samples
  | conversionComplete code =>
    change Gives _ (execConversionComplete code s)
    unfold execConversionComplete
    split
    · exact State.oneSide_event h fun _ => b.same.complete _ code
    · exact gives_next h
  | inputSample r pinHigh =>
    have sampled : s.Below (s.sampleInput r pinHigh) := State.Below.deliverInput b.same r _
    have started := State.settleStarts_keeps State.oneSide_keepsStarts _ s (sampled.oneSide h)
    refine gives_ite h fun _ => ?_
    generalize (s.sampleInput r pinHigh).settleStarts s = t at started
    have raised : t.Below (t.raiseInput r (s.sampled r pinHigh).2) := by
      unfold State.raiseInput
      split
      · split
        · exact .raise (.refl t) _
        · exact .refl t
      · exact .refl t
    exact raised.oneSide started
  -- Events that write their own block alone
  | secondsTick | requestDiscardedBusy | serviceFrameBadCrc | serviceFrameAbort | linkIdle
  | receiveAbort | frameRejected | backoffAbandoned | spacingExpiry | shedSpacingExpiry
  | pwmPeriodStart | scanTimerExpiry | frameStartCharacter | charactersAfterFrame | attemptBegin
  | cutOffFrameRelease | serviceStartCharacter | serviceLengthZero =>
    exact State.oneSide_kept h b.same

theorem step_oneSide {s t : State} (h : s.oneSide = true) (hst : step s = .next t) :
    t.oneSide = true := by
  unfold Machine.step at hst
  split at hst
  · cases hst
    exact h
  · rename_i c rest _
    exact exec_oneSide c (s := { s with pending := rest }) h t hst

/-- Settles O57: every start has its interlocks, and no command's own effect starts a stage but the grant
of a claim still wanted. -/
theorem neverBothSides : Obligations.NeverBothSides :=
  ⟨fun _ _ => step_oneSide, fun _ _ _ => State.interlocks_apart,
    fun s i presented => State.interlocks_of_selectable (s := s) (s.select_presented.1 i presented),
    fun _ _ => State.interlocks_of_stillWanted⟩

end Sys2Proof.Machine

/-! # A slot in its place, and a stage tripped (R137, R141, R147, R152, R157)

What the evaluations, normal stops and starts of one event make of one slot, and of a stage that the
event has tripped. -/

namespace Sys2Proof.Machine

/-! ## A slot through the reports, the normal stops and the starts of an event -/

theorem State.slot_reportMove (t before : State) (i : Slot) :
    (t.reportMove before).slot i = t.slot i := State.slot_congr (t.reportMove_stage before).1 i

/-- A property of a slot that the normal stop of a RUN_FREE stage and the claim or the start of a READY
one keep. -/
structure Stage.Stands (A : Stage → Prop) : Prop where
  stop : ∀ r q : Stage, A r → r.state = .runFree → q.state = .offLock → A q
  start : ∀ r q : Stage, A r → r.state = .ready →
    q.state = .claimed ∨ q.state = .proving ∨ q.state = .runLock → A q

/-- A stage that is neither READY nor in RUN_FREE is left alone. -/
theorem Stage.stands_fixed {r : Stage} (free : r.state ≠ .runFree) (ready : r.state ≠ .ready) :
    Stage.Stands (fun q => q = r) where
  stop := by
    rintro _ q rfl runs _
    exact absurd runs free
  start := by
    rintro _ q rfl waits _
    exact absurd waits ready

/-- R77, R143: a decision leaves its slot as it is, claims it, or starts it. -/
theorem State.Decision.own_slot {s t : State} {i : Slot} (d : s.Decision i t) :
    t.slot i = s.slot i ∨ t.stageState i = .claimed ∨ t.stageState i = .proving ∨
      t.stageState i = .runLock := by
  cases d with
  | claim level headroom => exact .inr (.inl (State.openClaim_claimed _ i level))
  | shed level headroom needed =>
    exact .inl (State.slot_congr (by simp [State.callShed, State.judged]) i)
  | denied => exact .inl rfl
  | granted level headroom mode =>
    rw [State.stageState, State.grant_slot]
    rcases State.startedStage_state (s.judged level headroom) i with state | state
    · exact .inr (.inr (.inr state))
    · exact .inr (.inr (.inl state))

namespace Stage.Stands

variable {A : Stage → Prop} {i : Slot}

theorem carried (k : Stage.Stands A) (i : Slot) :
    State.Carried (fun t => A (t.slot i)) (fun t => A (t.slot i)) where
  still h e := State.slot_congr e.slots i ▸ h
  unformed h e := State.slot_congr e.slots i ▸ h
  form _ h := h
  stop s j free h := by
    show A ((s.stopSlot j).slot i)
    rw [State.stopSlot_slot]
    split
    · rename_i own
      obtain ⟨rfl, -⟩ := own
      exact k.stop _ _ h free rfl
    · exact h
  start s t j h selectable d _ := by
    show A (t.slot i)
    by_cases own : i = j
    · subst own
      rcases d.own_slot with same | moved
      · rw [same]
        exact h
      · exact k.start _ _ h (State.ready_of_selectable selectable) moved
    · rw [d.other own]
      exact h

theorem stagesMoved (k : Stage.Stands A) {t : State} (before : State) (h : A (t.slot i)) :
    A ((t.stagesMoved before).slot i) :=
  (k.carried i).serveWanted 4 _ _ (by rw [t.slot_reportMove]; exact h)

theorem settleInto (k : Stage.Stands A) {t : State} (before : State) (h : A (t.slot i)) :
    A ((t.settleInto before).slot i) := (k.carried i).settleInto before h

end Stage.Stands

/-- A slot out of the way of stops and starts, from its transition to the end of the event. -/
theorem State.slot_settled {t : State} {i : Slot} (free : (t.slot i).state ≠ .runFree)
    (ready : (t.slot i).state ≠ .ready) (mid before : State) :
    ((t.stagesMoved mid).settleInto before).slot i = t.slot i :=
  have k := Stage.stands_fixed free ready
  k.settleInto before (k.stagesMoved mid rfl)

/-! ## A stage that the event has tripped -/

/-- R152, R157: stage `i` of `s` tripped, in the course of its event. -/
structure State.TrippedBy (s : State) (i : Slot) (cause : Category) (t : State) : Prop where
  rests : t.Rests i { s.trippedStage i with prove := none }
  held : cause.within t.fault.heldSet = true
  locked : locksOut (pushTrip (s.slot i).history s.seconds) = true →
    Category.lockout.within t.fault.heldSet = true

namespace State.TrippedBy

variable {s t : State} {i : Slot} {cause : Category}

theorem stopped (s : State) (i : Slot) : (s.trippedStage i).state.running = false := by
  rcases s.trippedStage_state i with h | h <;> rw [h] <;> rfl

/-- What keeps the slot at rest and the held categories. -/
theorem moved (h : s.TrippedBy i cause t) {u : State}
    (rests : u.Rests i { s.trippedStage i with prove := none })
    (held : ∀ c : Category, c.within t.fault.heldSet = true → c.within u.fault.heldSet = true) :
    s.TrippedBy i cause u :=
  ⟨rests, held _ h.held, fun locks => held _ (h.locked locks)⟩

theorem keeps (s : State) (i : Slot) (cause : Category) : State.Keeps (s.TrippedBy i cause) := by
  have k := State.rests_keeps (i := i) (r := { s.trippedStage i with prove := none })
    (State.TrippedBy.stopped s i)
  exact
    { mode := fun t m h => h.moved (k.mode t m h.rests) fun _ => id
      denials := fun t h => h.moved (k.denials t h.rests) fun _ => id
      fan := fun t on h => h.moved (k.fan t on h.rests) fun _ => by
        rw [t.fanCommanded_eq on]
        exact id
      request := fun t h => h.moved (k.request t h.rests) fun _ => by
        rw [t.requestState_fault]
        exact id
      stop := fun t j h => h.moved (k.stop t j h.rests) fun _ => by
        rw [t.stopSlot_fault]
        exact id }

end State.TrippedBy

/-- What a trip holds of the categories held before it. -/
theorem State.trip_keeps_held (s : State) (i : Slot) (cause c : Category)
    (h : c.within s.fault.heldSet = true) : c.within (s.trip i cause).fault.heldSet = true := by
  unfold State.trip
  split
  · dsimp only
    split
    · exact State.raise_keeps_held _ _ _ (State.raise_keeps_held _ _ _ h)
    · exact State.raise_keeps_held _ _ _ h
  · exact h

theorem State.slot_trip_other (s : State) {i j : Slot} (cause : Category) (other : i ≠ j) :
    (s.trip j cause).slot i = s.slot i := by
  have stage := s.trip_stage j cause
  rw [State.slot, stage]
  split
  · exact (State.slot_takeOut s j i _).trans (if_neg other)
  · rfl

theorem State.trip_idle {s : State} {i : Slot} (idle : s.isRunning i = false) (cause : Category) :
    s.trip i cause = s := by
  rw [State.trip, if_neg (by simp [idle])]

/-- A stage at rest stays so through every trip. -/
theorem State.Rests.trip {s : State} {i : Slot} {r : Stage} (h : s.Rests i r)
    (idle : r.state.running = false) (j : Slot) (cause : Category) : (s.trip j cause).Rests i r := by
  by_cases own : i = j
  · subst own
    rw [State.trip_idle (by rw [State.isRunning_of_slot h.1, idle])]
    exact h
  · refine ⟨(s.slot_trip_other cause own).trans h.1, ?_⟩
    rw [s.trip_stage j cause]
    split
    · rw [StageCtl.takeOut_order]
      exact fun hi => h.2 (List.mem_filter.1 hi).1
    · exact h.2

theorem State.TrippedBy.trip {s t : State} {i : Slot} {cause : Category} (h : s.TrippedBy i cause t)
    (j : Slot) (c : Category) : s.TrippedBy i cause (t.trip j c) :=
  h.moved (h.rests.trip (State.TrippedBy.stopped s i) j c) fun d => t.trip_keeps_held j c d

/-- R152: a running stage tripped, seen from any state with the same slot and seconds count. -/
theorem State.trip_trips {s t : State} {i : Slot} (running : s.isRunning i = true) (cause : Category)
    (slot : t.slot i = s.slot i) (seconds : t.seconds = s.seconds) :
    s.TrippedBy i cause (t.trip i cause) := by
  have runs : t.isRunning i = true := (State.isRunning_of_slot slot).trans running
  obtain ⟨held, locked⟩ := State.trip_holds runs cause
  have rests := State.trip_rests runs cause
  rw [slot, seconds] at locked
  have same : t.trippedStage i = s.trippedStage i := by
    rw [State.trippedStage, slot, seconds, State.trippedStage]
  rw [same] at rests
  exact ⟨rests, held, locked⟩

/-- R152: the trip at the end of its event. -/
theorem State.TrippedBy.settled {s t : State} {i : Slot} {cause : Category}
    (h : s.TrippedBy i cause t) (before : State) : s.tripTaken (t.settleInto before) i cause :=
  State.tripTaken_settled h.rests h.held h.locked before

theorem State.TrippedBy.stagesMoved {s t : State} {i : Slot} {cause : Category}
    (h : s.TrippedBy i cause t) (before : State) : s.TrippedBy i cause (t.stagesMoved before) :=
  State.stagesMoved_keeps (State.TrippedBy.keeps s i cause) t before h

end Sys2Proof.Machine

/-! # UNLOCK (R158, R204) -/

namespace Sys2Proof.Machine

theorem slotOfCode_slotCode (i : Slot) : slotOfCode (slotCode i) = some i := by
  cases i <;> rfl

theorem slotCode_of_slotOfCode {n : Nat} {i : Slot} (h : slotOfCode n = some i) :
    n = slotCode i := by
  unfold slotOfCode at h
  split at h <;> cases h <;> rfl

/-- The request of a LOCKED slot, taken outside CONFIG. -/
theorem State.unlock_releases {s : State} {code : Byte} {i : Slot}
    (hp : s.powered = true) (empty : s.svc.buffer = .empty)
    (operates : s.station.state ≠ .config) (hc : code.toNat = slotCode i)
    (locked : s.stageState i = .locked) :
    exec (.unlock code) s =
      .next ((State.unlockSlot { s with svc.rx := .hunt } i).answer 0x21 .ok) := by
  change execUnlock code s = _
  rw [execUnlock, State.request_runs s _ hp empty, if_neg operates, hc, slotOfCode_slotCode]
  exact congrArg Host.Outcome.next (if_pos locked)

/-- R158: a LOCKED slot released, with the selection that ends the event. -/
theorem State.unlockSlot_slot (s : State) (i : Slot) :
    (s.unlockSlot i).slot i = { s.slot i with
      state := .offLock, timer := some (ofSeconds (s.slotConfig i).minOff), history := [] } := by
  have own := s.slot_setSlot_self i { s.slot i with
    state := .offLock, timer := some (ofSeconds (s.slotConfig i).minOff), history := [] }
  unfold State.unlockSlot
  rw [State.slot_settled (by rw [own]; nofun) (by rw [own]; nofun), own]

theorem State.unlockSlot_fault (s : State) (i : Slot) : (s.unlockSlot i).fault = s.fault := by
  unfold State.unlockSlot
  rw [State.settleInto_fault, State.stagesMoved_fault, State.setSlot_fault]

/-- Settles O15: each case of the request in turn. -/
theorem unlockReleasesALockedSlot : Obligations.UnlockReleasesALockedSlot := by
  refine ⟨fun s code i hp empty operates hc locked => ?_,
    fun s code hp empty operates none => ?_, fun s code hp empty config => ?_⟩
  · have runs := State.unlock_releases hp empty operates hc locked
    have slot := State.unlockSlot_slot { s with svc.rx := .hunt } i
    have fault := State.unlockSlot_fault { s with svc.rx := .hunt } i
    have frame := State.unlockSlot_frame { s with svc.rx := .hunt } i
    generalize State.unlockSlot { s with svc.rx := .hunt } i = u at *
    refine ⟨_, runs, slot, ?_, fault, ?_⟩
    · show (⟨u.svc.rx, _⟩ : ServicePort) = _
      rw [frame.svc_eq]
    · exact ⟨by rw [frame.1]; rfl, frame.2⟩
  · change execUnlock code s = _
    rw [execUnlock, State.request_runs s _ hp empty, if_neg operates]
    split
    · rename_i i hi
      exact congrArg Host.Outcome.next (if_neg (none i (slotCode_of_slotOfCode hi)))
    · rfl
  · change execUnlock code s = _
    rw [execUnlock, State.request_runs s _ hp empty, if_pos config]
    rfl

end Sys2Proof.Machine

/-! # The off-time timers, the inter-stage timer and the selection (R140 to R142, R148, R152) -/

namespace Sys2Proof.Machine

/-! ## The interlocks of each slot (R140) -/

theorem State.inputsSettled_iff (s : State) :
    s.inputsSettled = true ↔ ∀ r : InputRole, s.accepted r ≠ .unsettled := by
  have all (r : InputRole) : r ∈ allInputs := by cases r <;> decide
  simp only [State.inputsSettled, List.all_eq_true, bne_iff_ne]
  exact ⟨fun h r => h r (all r), fun h r _ => h r⟩

theorem State.supplyAllowsHeat_iff (s : State) : s.supplyAllowsHeat = true ↔
    (s.sensor .supply).state = .valid ∨ (s.sensor .supply).state = .holding ∨
      (s.sensor .supply).state = .unfitted := by
  unfold State.supplyAllowsHeat
  cases (s.sensor .supply).state <;> decide

theorem State.secondMayStart_iff (s : State) : s.secondMayStart = true ↔
    s.isRunning .c1 = true ∨ s.stageState .c1 = .unfitted ∨ s.stageState .c1 = .tripped ∨
      s.stageState .c1 = .locked := by
  unfold State.secondMayStart State.isRunning
  cases s.stageState .c1 <;> decide

theorem State.coolingIdle_iff (s : State) : s.runningCount .cooling = 0 ↔
    s.isRunning .c1 = false ∧ s.isRunning .c2 = false := by
  rw [State.runningCount_zero_iff]
  refine ⟨fun h => ⟨h .c1 rfl, h .c2 rfl⟩, fun ⟨first, second⟩ i side => ?_⟩
  cases i with
  | c1 => exact first
  | c2 => exact second
  | h1 | h2 => cases side

theorem State.heatingIdle_iff (s : State) : s.runningCount .heating = 0 ↔
    s.isRunning .h1 = false ∧ s.isRunning .h2 = false := by
  rw [State.runningCount_zero_iff]
  refine ⟨fun h => ⟨h .h1 rfl, h .h2 rfl⟩, fun ⟨first, second⟩ i side => ?_⟩
  cases i with
  | h1 => exact first
  | h2 => exact second
  | c1 | c2 => cases side

/-! ## The timers' events -/

section
variable {s : State} {i : Slot}

/-- R148: the slot back in READY. -/
def State.readied (s : State) (i : Slot) : State :=
  s.setSlot i { s.slot i with state := .ready, timer := none }

theorem State.minOffExpiry_runs (hp : s.powered = true) (timer : (s.slot i).timer.isSome = true)
    (off : s.stageState i = .offLock) :
    exec (.minOffExpiry i) s = .next (((s.readied i).stagesMoved s).settleInto s) := by
  change execMinOffExpiry i s = _
  rw [execMinOffExpiry, State.event_runs s _ _ hp (by simp [timer, off])]
  rfl

/-- R152: the slot's trip delay over. -/
def State.delayed (s : State) (i : Slot) : State :=
  s.setSlot i { s.slot i with
    state := .offLock, timer := some (ofSeconds (s.slotConfig i).minOff) }

theorem State.tripDelayExpiry_runs (hp : s.powered = true)
    (timer : (s.slot i).timer.isSome = true) (tripped : s.stageState i = .tripped) :
    exec (.tripDelayExpiry i) s = .next (((s.delayed i).stagesMoved s).settleInto s) := by
  change execTripDelayExpiry i s = _
  rw [execTripDelayExpiry, State.event_runs s _ _ hp (by simp [timer, tripped])]
  rfl

/-- R142: the inter-stage timer stopped. -/
def State.interStageOver (s : State) : State := { s with stage.interStage := none }

theorem State.interStageExpiry_runs (hp : s.powered = true)
    (timer : s.stage.interStage.isSome = true) :
    exec .interStageExpiry s = .next (s.interStageOver.settleInto s) := by
  change execInterStageExpiry s = _
  rw [execInterStageExpiry, State.event_runs s _ _ hp timer]
  rfl

/-- The frame and the Fault Capture after a slot written, at the end of its event. -/
theorem State.setSlot_settled (s : State) (i : Slot) (r : Stage) (before : State) :
    s.stageFrame (((s.setSlot i r).stagesMoved s).settleInto before) ∧
      (((s.setSlot i r).stagesMoved s).settleInto before).fault = s.fault := by
  refine ⟨State.stageFrame_trans ((s.setSlot_frame i r).stagesMoved s) (State.settleInto_frame _ _), ?_⟩
  rw [State.settleInto_fault, State.stagesMoved_fault, State.setSlot_fault]

theorem State.startsHeld_congr {s t : State} (h : s.startsHeld = true) (adm : t.adm.state = s.adm.state)
    (station : t.station = s.station) : t.startsHeld = true := by
  rw [State.startsHeld, adm, station]
  exact h

/-- The report of a transition takes no start and leaves what holds one back. -/
theorem State.stagesMoved_held {t : State} (h : t.startsHeld = true) (before : State) :
    (t.stagesMoved before).startsHeld = true := by
  have kept := State.stagesMoved_keeps t.eventKept_keeps t before (.refl t)
  exact State.startsHeld_congr h (by rw [kept.adm.1]) (t.stagesMoved_frame before).station_eq

/-- A stopped slot is left alone by evaluations and stops. -/
theorem State.stoppedSlot_keeps {r : Stage} (idle : r.state.running = false) :
    State.Keeps (fun t => t.slot i = r) where
  mode _ _ h := h
  denials _ h := h
  fan t on h := (State.slot_congr (t.fanCommanded_stage on).1 i).trans h
  request t h := (State.slot_congr (by rw [t.requestState_stage]) i).trans h
  stop t j h := by
    rw [State.stopSlot_slot, if_neg]
    · exact h
    · rintro ⟨rfl, runs⟩
      rw [State.isRunning_of_slot h, idle] at runs
      cases runs

/-- R148: a slot that is READY while no start can be taken. -/
theorem State.readied_held (held : s.startsHeld = true) :
    (((s.readied i).stagesMoved s).settleInto s).slot i =
      { s.slot i with state := .ready, timer := none } := by
  have ready : ((s.readied i).stagesMoved s).slot i =
      { s.slot i with state := .ready, timer := none } :=
    State.stagesMoved_keeps (State.stoppedSlot_keeps rfl) _ s (State.slot_setSlot_self ..)
  obtain ⟨-, -, stage⟩ := State.settleInto_plant s (State.stagesMoved_held
    (State.startsHeld_congr (t := s.readied i) held rfl rfl) s)
  exact (State.slot_congr (by rw [stage]) i).trans ready

/-- What a slot that came to READY can be at the end of the event. -/
theorem Stage.stands_serving : Stage.Stands (fun q =>
    q.state = .ready ∨ q.state = .claimed ∨ q.state = .proving ∨ q.state = .runLock) where
  stop _ _ h free := by simp [free] at h
  start _ _ _ _ h := .inr h

/-- R148: a slot that came to READY is not back in OFF_LOCK. -/
theorem State.readied_leaves :
    (((s.readied i).stagesMoved s).settleInto s).stageState i ≠ .offLock := by
  have ready : ((s.readied i).slot i).state = .ready :=
    congrArg Stage.state (s.slot_setSlot_self i { s.slot i with state := .ready, timer := none })
  have serves := Stage.stands_serving.settleInto s
    (Stage.stands_serving.stagesMoved s (.inl ready))
  rw [State.stageState]
  rcases serves with h | h | h | h <;> rw [h] <;> nofun

end

/-- Settles O46: the slot each timer is of, and the selection that ends its event. -/
theorem offTimersAndSelection : Obligations.OffTimersAndSelection := by
  refine ⟨fun s i hp off timer held => ?_, fun s i hp tripped timer => ?_, fun s hp timer => ?_,
    fun s i hp off timer => ?_, fun s i => ?_⟩
  · obtain ⟨frame, fault⟩ := s.setSlot_settled i { s.slot i with state := .ready, timer := none } s
    exact ⟨_, State.minOffExpiry_runs hp timer off, State.readied_held held, fault, frame⟩
  · obtain ⟨frame, fault⟩ := s.setSlot_settled i { s.slot i with
      state := .offLock, timer := some (ofSeconds (s.slotConfig i).minOff) } s
    have delayed : (s.delayed i).slot i = { s.slot i with
        state := .offLock, timer := some (ofSeconds (s.slotConfig i).minOff) } :=
      State.slot_setSlot_self ..
    have slot := State.slot_settled (t := s.delayed i) (i := i) (by rw [delayed]; nofun)
      (by rw [delayed]; nofun) s s
    exact ⟨_, State.tripDelayExpiry_runs hp timer tripped, slot.trans delayed,
      State.settleInto_selects _ s, fault, frame⟩
  · obtain ⟨presented, unpresented⟩ := State.settleInto_selects s.interStageOver s
    refine ⟨_, State.interStageExpiry_runs hp timer, presented, unpresented, fun held => ?_,
      State.settleInto_fault _ s, State.stageFrame_trans ⟨rfl, rfl⟩ (State.settleInto_frame _ s)⟩
    rw [State.settleInto_held (s := s.interStageOver) (before := s) held rfl]
    exact ⟨rfl, rfl, rfl, rfl⟩
  · obtain ⟨frame, fault⟩ := s.setSlot_settled i { s.slot i with state := .ready, timer := none } s
    exact ⟨_, State.minOffExpiry_runs hp timer off, State.settleInto_selects _ s,
      State.readied_leaves, fault, frame⟩
  · cases i <;>
      simp only [State.interlocks, Bool.and_eq_true, beq_iff_eq, Bool.not_eq_true', State.active,
        beq_eq_false_iff_ne, s.inputsSettled_iff, s.coolingIdle_iff, s.heatingIdle_iff,
        s.secondMayStart_iff, s.supplyAllowsHeat_iff, and_assoc]

end Sys2Proof.Machine

/-! # Several trips at one event (R137, R152) -/

namespace Sys2Proof.Machine

/-- A transition that trips at most its own slot. -/
def TripsAtMost (cause : Category) (move : State → Slot → State) : Prop :=
  ∀ (t : State) (j : Slot), move t j = t.trip j cause ∨ move t j = t

/-- The slot and the seconds count of `t` are those of `s`. -/
structure State.SameSlot (s : State) (i : Slot) (t : State) : Prop where
  slot : t.slot i = s.slot i
  seconds : t.seconds = s.seconds

theorem State.SameSlot.reportMove {s t : State} {i : Slot} (h : s.SameSlot i t) (before : State) :
    s.SameSlot i (t.reportMove before) :=
  ⟨(t.slot_reportMove before i).trans h.slot, by rw [(t.reportMove_frame before).1]; exact h.seconds⟩

theorem State.SameSlot.trip {s t : State} {i j : Slot} (h : s.SameSlot i t) (cause : Category)
    (other : i ≠ j) : s.SameSlot i (t.trip j cause) :=
  ⟨(t.slot_trip_other cause other).trans h.slot, by rw [(t.trip_frame j cause).1]; exact h.seconds⟩

theorem TripsAtMost.other {cause : Category} {move : State → Slot → State}
    (hm : TripsAtMost cause move) {s t : State} {i j : Slot} (h : s.SameSlot i t) (other : i ≠ j) :
    s.SameSlot i (move t j) := by
  rcases hm t j with tripped | same
  · rw [tripped]
    exact h.trip cause other
  · rw [same]
    exact h

theorem TripsAtMost.trippedBy {cause : Category} {move : State → Slot → State}
    (hm : TripsAtMost cause move) {s t : State} {i : Slot} {c : Category} (h : s.TrippedBy i c t)
    (j : Slot) : s.TrippedBy i c (move t j) := by
  rcases hm t j with tripped | same
  · rw [tripped]
    exact h.trip j cause
  · rw [same]
    exact h

/-- R152, R155: a running stage among those tripped comes to its trip as the event found it. -/
theorem State.moveEach_trips {cause : Category} {move : State → Slot → State}
    (hm : TripsAtMost cause move) {s : State} {i : Slot} (running : s.isRunning i = true)
    (trips : ∀ t : State, t.slot i = s.slot i → move t i = t.trip i cause) (l : List Slot)
    (hi : i ∈ l) {t : State} (h : s.SameSlot i t) : s.TrippedBy i cause (t.moveEach move l) := by
  have keeps := State.TrippedBy.keeps s i cause
  induction l generalizing t with
  | nil => cases hi
  | cons j rest ih =>
    rw [State.moveEach_cons]
    by_cases own : i = j
    · subst own
      have tripped : s.TrippedBy i cause (move t i) := by
        rw [trips t h.slot]
        exact State.trip_trips running cause h.slot h.seconds
      exact State.moveEach_keeps keeps _ (fun u j k => hm.trippedBy k j) rest _
        (State.reportMove_keeps keeps _ t tripped)
    · exact ih ((List.mem_cons.1 hi).resolve_left own) ((hm.other h own).reportMove t)

/-- A stage that the event does not trip. -/
theorem State.moveEach_passes {cause : Category} {move : State → Slot → State}
    (hm : TripsAtMost cause move) {s : State} {i : Slot}
    (passes : ∀ t : State, t.slot i = s.slot i → move t i = t) (l : List Slot) {t : State}
    (h : s.SameSlot i t) : s.SameSlot i (t.moveEach move l) := by
  induction l generalizing t with
  | nil => exact h
  | cons j rest ih =>
    rw [State.moveEach_cons]
    refine ih (State.SameSlot.reportMove ?_ t)
    by_cases own : i = j
    · subst own
      rw [passes t h.slot]
      exact h
    · exact hm.other h own

theorem State.moveAll_trips {cause : Category} {move : State → Slot → State}
    (hm : TripsAtMost cause move) {s : State} {i : Slot} (running : s.isRunning i = true)
    (trips : ∀ t : State, t.slot i = s.slot i → move t i = t.trip i cause) (l : List Slot)
    (hi : i ∈ l) {t : State} (h : s.SameSlot i t) : s.TrippedBy i cause (t.moveAll move l) :=
  State.serveWanted_keeps (State.TrippedBy.keeps s i cause) 4 _ _
    (State.moveEach_trips hm running trips l hi h)

end Sys2Proof.Machine

/-! # The prove timer, HEAT_PROVE and the low-pressure inputs (R144, R145, R152, R154, R155) -/

namespace Sys2Proof.Machine

section
variable {s : State} {i : Slot}

/-! ## PROVE_EXPIRY -/

/-- R144, R145: the stage proven. -/
theorem State.proveExpiry_proves (hp : s.powered = true) (proving : s.stageState i = .proving)
    (timer : (s.slot i).prove.isSome = true) (proven : s.proveFailure i = none) :
    exec (.proveExpiry i) s = .next (((s.lockRun i).stagesMoved s).settleInto s) := by
  change execProveExpiry i s = _
  rw [execProveExpiry, State.event_runs s _ _ hp (by simp [timer, proving])]
  simp only [proven]

/-- R144, R145: the stage tripped. -/
theorem State.proveExpiry_trips {cause : Category} (hp : s.powered = true)
    (proving : s.stageState i = .proving) (timer : (s.slot i).prove.isSome = true)
    (failed : s.proveFailure i = some cause) :
    exec (.proveExpiry i) s = .next (((s.trip i cause).stagesMoved s).settleInto s) := by
  change execProveExpiry i s = _
  rw [execProveExpiry, State.event_runs s _ _ hp (by simp [timer, proving])]
  simp only [failed]

/-- The frame after a trip, at the end of its event. -/
theorem State.tripped_frame (s : State) (i : Slot) (cause : Category) (before : State) :
    s.stageFrame (((s.trip i cause).stagesMoved s).settleInto before) :=
  State.stageFrame_trans ((s.trip_frame i cause).stagesMoved s) (State.settleInto_frame _ before)

/-- The pin of a slot that ends an event in a running state. -/
theorem State.settleInto_pinHigh {t before : State} {r : Stage}
    (slot : (t.settleInto before).slot i = r) (runs : r.state.running = true) :
    (t.settleInto before).pins.stages.get i = true := by
  rw [State.settleInto_stagePin, State.isRunning_of_slot slot, runs]

theorem State.running_of_proving (h : s.stageState i = .proving) : s.isRunning i = true := by
  rw [State.isRunning, h]
  rfl

/-! ## A sample of an input that raises nothing -/

/-- R182, R184: an accepted change of an input that stands for no category. -/
theorem State.accepts_silent {r : InputRole} {pinHigh active : Bool} (silent : inputCategory r = none)
    (h : s.accepts r pinHigh active = true) :
    ∃ x : Input, x.accepted = acceptedOf active ∧ exec (.inputSample r pinHigh) s =
      .next (((s.setInput r x).deliverInput r (if active then .activated else .deactivated)).settleInto
        s) := by
  have runs := State.accepts_runs h
  have accepted := (State.sampled_accepts h).2
  generalize (s.sampled r pinHigh).1 = x at *
  rw [State.raiseInput_none (.inr silent), ← State.settleInto] at runs
  exact ⟨x, accepted, runs⟩

/-! ## HEAT_PROVE ACTIVATED -/

theorem State.slot_proveHeat (s : State) (i j : Slot) :
    (s.proveHeat j).slot i =
      if i = j ∧ s.stageState i = .proving then { s.slot i with state := .runLock, prove := none }
      else s.slot i := by
  by_cases proving : s.stageState j = .proving
  · rw [State.proveHeat, if_pos proving, State.slot_setSlot]
    by_cases own : i = j
    · subst own
      rw [if_pos rfl, if_pos ⟨rfl, proving⟩]
    · rw [if_neg own, if_neg fun h => own h.1]
  · rw [State.proveHeat, if_neg proving, if_neg]
    rintro ⟨rfl, h⟩
    exact proving h

/-- R145: a heat stage in PROVING comes to RUN_LOCK. -/
theorem State.heatProved (heating : sideOf i = .heating) (proving : s.stageState i = .proving) :
    (s.moveEach State.proveHeat [.h1, .h2]).slot i =
      { s.slot i with state := .runLock, prove := none } := by
  simp only [State.stageState] at proving
  cases i with
  | c1 | c2 => cases heating
  | h1 | h2 =>
    simp [State.moveEach, State.slot_reportMove, State.slot_proveHeat,
      State.stageState, proving]

/-- R145: at the end of the event. -/
theorem State.heatProved_settled (heating : sideOf i = .heating)
    (proving : s.stageState i = .proving) (before : State) :
    ((s.moveAll State.proveHeat [.h1, .h2]).settleInto before).slot i =
      { s.slot i with state := .runLock, prove := none } := by
  have proved := State.heatProved heating proving
  have fixed := Stage.stands_fixed (r := { s.slot i with state := .runLock, prove := none })
    (by nofun) (by nofun)
  exact fixed.settleInto before ((fixed.carried i).serveWanted 4 _ _ proved)

/-- No heat stage in PROVING leaves nothing to move. -/
theorem State.heatProved_none (none : ∀ i : Slot, sideOf i = .heating → s.stageState i ≠ .proving) :
    s.moveAll State.proveHeat [.h1, .h2] = s := by
  have idle (j : Slot) (hj : sideOf j = .heating) : s.proveHeat j = s := if_neg (none j hj)
  have report : s.reportMove s = s := by rw [State.reportMove, if_pos rfl]
  have each : s.moveEach State.proveHeat [.h1, .h2] = s := by
    rw [State.moveEach_cons, idle .h1 rfl, report, State.moveEach_cons, idle .h2 rfl, report]
    rfl
  rw [State.moveAll, each, State.serveWanted_tested 4 rfl rfl]

theorem State.proveHeat_fault (s : State) (i : Slot) : (s.proveHeat i).fault = s.fault := by
  unfold State.proveHeat
  split
  · exact State.setSlot_fault ..
  · rfl

theorem State.heatProved_fault (s : State) (l : List Slot) :
    (s.moveAll State.proveHeat l).fault = s.fault :=
  State.moveAll_keeps (State.blind_fault s.fault).keeps _
    (fun t j h => (t.proveHeat_fault j).trans h) l s rfl

/-- R145: HEAT_PROVE ACTIVATED. -/
theorem State.heatProveOn {pinHigh : Bool} (h : s.accepts .heatProve pinHigh true = true) :
    ∃ t, exec (.inputSample .heatProve pinHigh) s = .next t ∧
      (∀ i : Slot, sideOf i = .heating → s.stageState i = .proving →
        t.slot i = { s.slot i with state := .runLock, prove := none } ∧
          t.pins.stages.get i = true) ∧
      (s.startsHeld = true → (∀ i : Slot, sideOf i = .heating → s.stageState i ≠ .proving) →
        t.stage.slots = s.stage.slots) ∧
      t.fault = s.fault ∧ s.stageFrame { t with inputs := s.inputs } := by
  obtain ⟨x, -, runs⟩ := State.accepts_silent rfl h
  have delivered : (s.setInput .heatProve x).deliverInput .heatProve (if (true : Bool) = true then
      .activated else .deactivated) =
      (s.setInput .heatProve x).moveAll State.proveHeat [.h1, .h2] := by
    simp [State.deliverInput, State.modeHears, State.stageActivated]
  rw [delivered] at runs
  refine ⟨_, runs, fun i heating proving => ?_, fun held none => ?_, ?_, ?_⟩
  · have slot := State.heatProved_settled (s := s.setInput .heatProve x) heating proving s
    exact ⟨slot, State.settleInto_pinHigh slot rfl⟩
  · have same := State.heatProved_none (s := s.setInput .heatProve x) none
    obtain ⟨-, -, stage⟩ := State.settleInto_plant (s := s.setInput .heatProve x) s held
    rw [same, stage]
    rfl
  · exact (State.settleInto_fault _ s).trans (State.heatProved_fault _ _)
  · exact State.stageFrame_inputs (State.stageFrame_trans
      (State.moveAll_frame _ State.proveHeat_frame _ _) (State.settleInto_frame _ s))

/-! ## HEAT_PROVE DEACTIVATED -/

theorem State.losesHeatProve_locked (h : s.stageState i = .runLock ∨ s.stageState i = .runFree) :
    s.losesHeatProve i = s.trip i .heatProve := by
  unfold State.losesHeatProve
  rcases h with h | h <;> rw [h]

theorem State.losesHeatProve_other (locked : s.stageState i ≠ .runLock)
    (free : s.stageState i ≠ .runFree) : s.losesHeatProve i = s := by
  unfold State.losesHeatProve
  split
  · exact absurd ‹_› locked
  · exact absurd ‹_› free
  · rfl

theorem State.losesHeatProve_tripsAtMost : TripsAtMost .heatProve State.losesHeatProve := by
  intro t j
  unfold State.losesHeatProve
  split
  · exact .inl rfl
  · exact .inl rfl
  · exact .inr rfl

theorem State.mem_heatStages (h : sideOf i = .heating) : i ∈ [Slot.h1, Slot.h2] := by
  cases i with
  | c1 | c2 => cases h
  | h1 | h2 => simp

theorem State.running_of_locked (h : s.stageState i = .runLock ∨ s.stageState i = .runFree) :
    s.isRunning i = true := by
  rw [State.isRunning]
  rcases h with h | h <;> rw [h] <;> rfl

/-- R155: HEAT_PROVE DEACTIVATED. -/
theorem State.heatProveOff {pinHigh : Bool} (h : s.accepts .heatProve pinHigh false = true) :
    ∃ t, exec (.inputSample .heatProve pinHigh) s = .next t ∧
      (∀ i : Slot, sideOf i = .heating →
        s.stageState i = .runLock ∨ s.stageState i = .runFree →
        s.tripTaken t i .heatProve) ∧
      (∀ i : Slot, sideOf i = .heating → s.stageState i = .proving → t.slot i = s.slot i) ∧
      s.stageFrame { t with inputs := s.inputs } := by
  obtain ⟨x, -, runs⟩ := State.accepts_silent rfl h
  have delivered : (s.setInput .heatProve x).deliverInput .heatProve (if (false : Bool) = true then
      .activated else .deactivated) =
      (s.setInput .heatProve x).moveAll State.losesHeatProve [.h1, .h2] := by
    simp [State.deliverInput, State.modeHears, State.stageDeactivated]
  rw [delivered] at runs
  refine ⟨_, runs, fun i heating locked => ?_, fun i heating proving => ?_, ?_⟩
  · have tripped : s.TrippedBy i .heatProve
        ((s.setInput .heatProve x).moveAll State.losesHeatProve [.h1, .h2]) :=
      State.moveAll_trips State.losesHeatProve_tripsAtMost (State.running_of_locked locked)
        (fun t same => State.losesHeatProve_locked (by
          rw [State.stageState, same]
          exact locked)) _ (State.mem_heatStages heating) ⟨rfl, rfl⟩
    exact tripped.settled s
  · have passed : s.SameSlot i ((s.setInput .heatProve x).moveEach State.losesHeatProve [.h1, .h2]) :=
      State.moveEach_passes State.losesHeatProve_tripsAtMost
        (fun t same => by
          have proving : t.stageState i = .proving := by
            rw [State.stageState, same]
            exact proving
          exact State.losesHeatProve_other (by rw [proving]; nofun) (by rw [proving]; nofun))
        _ ⟨rfl, rfl⟩
    have fixed := Stage.stands_fixed (r := s.slot i)
      (by rw [← State.stageState, proving]; nofun) (by rw [← State.stageState, proving]; nofun)
    exact fixed.settleInto s ((fixed.carried i).serveWanted 4 _ _ passed.slot)
  · exact State.stageFrame_inputs (State.stageFrame_trans
      (State.moveAll_frame _ State.losesHeatProve_frame _ _) (State.settleInto_frame _ s))

/-! ## LPn ACTIVATED -/

theorem State.lowPressure_locked {n : Circuit} (cause : Category)
    (h : s.stageState (slotOfCircuit n) = .runLock ∨ s.stageState (slotOfCircuit n) = .runFree) :
    s.lowPressure n cause = s.trip (slotOfCircuit n) cause := by
  unfold State.lowPressure
  rcases h with h | h <;> rw [h]

theorem State.lowPressure_other {n : Circuit} (cause : Category)
    (locked : s.stageState (slotOfCircuit n) ≠ .runLock)
    (free : s.stageState (slotOfCircuit n) ≠ .runFree) : s.lowPressure n cause = s := by
  unfold State.lowPressure
  split
  · exact absurd ‹_› locked
  · exact absurd ‹_› free
  · rfl

/-- R154: LP1 and LP2 ACTIVATED. -/
theorem State.starved {n : Circuit} {r : InputRole} {cause : Category} {pinHigh : Bool}
    (own : (n = .one ∧ r = .lp1 ∧ cause = .lp1) ∨ (n = .two ∧ r = .lp2 ∧ cause = .lp2))
    (h : s.accepts r pinHigh true = true) :
    ∃ t, exec (.inputSample r pinHigh) s = .next t ∧
      (s.stageState (slotOfCircuit n) = .runLock ∨ s.stageState (slotOfCircuit n) = .runFree →
        s.tripTaken t (slotOfCircuit n) cause) ∧
      (s.stageState (slotOfCircuit n) ≠ .runLock → s.stageState (slotOfCircuit n) ≠ .runFree →
        t.fault = s.fault ∧ (s.startsHeld = true → t.stage.slots = s.stage.slots)) ∧
      s.stageFrame { t with inputs := s.inputs } := by
  have silent : inputCategory r = none := by
    rcases own with ⟨_, rfl, _⟩ | ⟨_, rfl, _⟩ <;> rfl
  obtain ⟨x, -, runs⟩ := State.accepts_silent silent h
  have delivered : (s.setInput r x).deliverInput r (if (true : Bool) = true then .activated
      else .deactivated) =
      ((s.setInput r x).lowPressure n cause).stagesMoved (s.setInput r x) := by
    rcases own with ⟨rfl, rfl, rfl⟩ | ⟨rfl, rfl, rfl⟩ <;> rfl
  rw [delivered] at runs
  refine ⟨_, runs, fun locked => ?_, fun locked free => ?_, ?_⟩
  · have running : s.isRunning (slotOfCircuit n) = true := State.running_of_locked locked
    have tripped : s.TrippedBy (slotOfCircuit n) cause ((s.setInput r x).trip (slotOfCircuit n) cause) :=
      State.trip_trips running cause rfl rfl
    rw [State.lowPressure_locked (s := s.setInput r x) cause locked]
    exact (tripped.stagesMoved _).settled s
  · rw [State.lowPressure_other (s := s.setInput r x) cause locked free, State.stagesMoved_same rfl]
    refine ⟨State.settleInto_fault _ s, fun held => ?_⟩
    obtain ⟨-, -, stage⟩ := State.settleInto_plant (s := s.setInput r x) s held
    rw [stage]
    rfl
  · exact State.stageFrame_inputs (State.stageFrame_trans
      ((State.lowPressure_frame _ n cause).stagesMoved _) (State.settleInto_frame _ s))

end

/-- Settles O44: what each of the prove timer, HEAT_PROVE and LPn makes of its slots, carried through
the stops and starts of the event. -/
theorem proveExpiryProvesOrTrips : Obligations.ProveExpiryProvesOrTrips := by
  refine ⟨fun s i hp proving timer proven => ?_, fun s i cause hp proving timer failed => ?_,
    fun s => ?_, fun s pinHigh h => State.heatProveOn h, fun s pinHigh h => State.heatProveOff h,
    fun s n r cause pinHigh own h => State.starved own h⟩
  · obtain ⟨frame, fault⟩ :=
      s.setSlot_settled i { s.slot i with state := .runLock, prove := none } s
    have locked : (s.lockRun i).slot i = { s.slot i with state := .runLock, prove := none } :=
      State.slot_setSlot_self ..
    have slot := (State.slot_settled (t := s.lockRun i) (i := i) (by rw [locked]; nofun)
      (by rw [locked]; nofun) s s).trans locked
    exact ⟨_, State.proveExpiry_proves hp proving timer proven, slot,
      State.settleInto_pinHigh slot rfl, fault, frame⟩
  · have tripped := State.trip_trips (State.running_of_proving proving) cause rfl rfl
    exact ⟨_, State.proveExpiry_trips hp proving timer failed, (tripped.stagesMoved s).settled s,
      s.tripped_frame i cause s⟩
  · simp only [State.proveFailure, State.active, beq_iff_eq, and_self]

end Sys2Proof.Machine

/-! # The freeze timers and the heat limit (R154 to R156) -/

namespace Sys2Proof.Machine

/-! ## The freeze timer of a circuit -/

theorem StageCtl.freeze_setFreeze (g : StageCtl) (n : Circuit) (t : Timer) :
    (g.setFreeze n t).freeze n = t := by cases n <;> rfl

theorem StageCtl.freeze_setFreeze_other (g : StageCtl) {n m : Circuit} (other : n ≠ m) (t : Timer) :
    (g.setFreeze m t).freeze n = g.freeze n := by
  cases n with
  | one =>
    cases m with
    | one => exact absurd rfl other
    | two => rfl
  | two =>
    cases m with
    | one => rfl
    | two => exact absurd rfl other

theorem StageCtl.setFreeze_slots (g : StageCtl) (n : Circuit) (t : Timer) :
    (g.setFreeze n t).slots = g.slots ∧ (g.setFreeze n t).order = g.order := by
  cases n <;> exact ⟨rfl, rfl⟩

theorem StageCtl.freeze_clearFreeze {g : StageCtl} {n : Circuit} (h : g.freeze n = none) (i : Slot) :
    (g.clearFreeze i).freeze n = none := by
  cases i with
  | c1 =>
    cases n with
    | one => rfl
    | two => exact h
  | c2 =>
    cases n with
    | one => exact h
    | two => rfl
  | h1 | h2 => exact h

/-- R154: a start tests the freeze timer of its own circuit alone. -/
theorem State.freeze_startSlot (s : State) {n : Circuit} {i : Slot} (other : slotOfCircuit n ≠ i) :
    (s.startSlot i).stage.freeze n = s.stage.freeze n := by
  have test (t : State) {m : Circuit} (hm : n ≠ m) :
      (t.testFreeze m).stage.freeze n = t.stage.freeze n := by
    unfold State.testFreeze
    split
    · split
      · exact StageCtl.freeze_setFreeze_other _ hm _
      · rfl
    · rfl
  have prove (t : State) (j : Slot) : (t.testHeatProve j).stage.freeze n = t.stage.freeze n := by
    unfold State.testHeatProve
    split <;> (cases n <;> rfl)
  unfold State.startSlot
  cases i with
  | c1 => exact (test _ (by rintro rfl; exact other rfl)).trans (by cases n <;> rfl)
  | c2 => exact (test _ (by rintro rfl; exact other rfl)).trans (by cases n <;> rfl)
  | h1 | h2 => exact (prove _ _).trans (by cases n <;> rfl)

/-- R154: the compressor of a circuit at rest, its freeze timer stopped. -/
structure State.Thawed (n : Circuit) (r : Stage) (t : State) : Prop where
  rests : t.Rests (slotOfCircuit n) r
  stopped : t.stage.freeze n = none

theorem State.thawed_keeps {n : Circuit} {r : Stage} (idle : r.state.running = false) :
    State.Keeps (State.Thawed n r) where
  mode _ _ h := ⟨h.rests, h.stopped⟩
  denials _ h := ⟨h.rests, h.stopped⟩
  fan t on h := ⟨(State.rests_keeps idle).fan t on h.rests, by
    rw [← h.stopped]
    unfold State.fanCommanded
    repeat' split
    all_goals cases n <;> rfl⟩
  request t h := ⟨(State.rests_keeps idle).request t h.rests, by
    rw [t.requestState_stage]
    exact h.stopped⟩
  stop t i h := ⟨(State.rests_keeps idle).stop t i h.rests, by
    unfold State.stopSlot
    split
    · refine StageCtl.freeze_clearFreeze ?_ i
      cases n <;> exact h.stopped
    · exact h.stopped⟩

/-- No start of another stage loads the freeze timer. -/
theorem State.thawed_keepsStarts {n : Circuit} {r : Stage} (idle : r.state.running = false)
    (ready : r.state ≠ .ready) : State.KeepsStarts (State.Thawed n r) where
  toKeeps := State.thawed_keeps idle
  select t h := ⟨h.rests, h.stopped⟩
  decide s t i h selectable taking working d := by
    refine ⟨(State.rests_keepsStarts idle ready).decide s t i h.rests selectable taking working d, ?_⟩
    have other : slotOfCircuit n ≠ i := by
      rintro rfl
      exact ready (h.rests.1 ▸ State.ready_of_selectable selectable)
    rw [← h.stopped]
    cases d with
    | claim level headroom => simp [State.openClaim]; cases n <;> rfl
    | shed level headroom needed => simp [State.callShed]; cases n <;> rfl
    | denied => cases n <;> rfl
    | granted level headroom mode =>
      rw [State.grant, State.grantMode_stage]
      exact (State.freeze_startSlot _ other).trans (by cases n <;> rfl)

/-! ## FREEZE_EXPIRY -/

section
variable {s : State} {n : Circuit}

/-- The freeze timer stopped, as its expiry leaves it. -/
def State.thaw (s : State) (n : Circuit) : State := { s with stage := s.stage.setFreeze n none }

theorem State.thaw_slot (s : State) (n : Circuit) (i : Slot) : (s.thaw n).slot i = s.slot i :=
  State.slot_congr (s.stage.setFreeze_slots n none).1 i

theorem State.freezeExpiry_runs (hp : s.powered = true) (timer : (s.stage.freeze n).isSome = true) :
    exec (.freezeExpiry n) s = .next
      ((((s.thaw n).trip (slotOfCircuit n) (freezeCategory n)).stagesMoved s).settleInto s) := by
  change execFreezeExpiry n s = _
  rw [execFreezeExpiry, State.event_runs s _ _ hp timer]
  rfl

/-- R154: the trip at the expiry. -/
theorem State.thaw_trips (running : s.isRunning (slotOfCircuit n) = true) :
    s.TrippedBy (slotOfCircuit n) (freezeCategory n)
      ((s.thaw n).trip (slotOfCircuit n) (freezeCategory n)) :=
  State.trip_trips running _ (s.thaw_slot n _) rfl

/-- R154: the freeze timer stays stopped to the end of the event that trips its compressor. -/
theorem State.thaw_stays (running : s.isRunning (slotOfCircuit n) = true) :
    ((((s.thaw n).trip (slotOfCircuit n) (freezeCategory n)).stagesMoved s).settleInto
      s).stage.freeze n = none := by
  have idle := State.TrippedBy.stopped s (slotOfCircuit n)
  have ready : (s.trippedStage (slotOfCircuit n)).state ≠ .ready := by
    rcases s.trippedStage_state (slotOfCircuit n) with h | h <;> rw [h] <;> nofun
  have runs : (s.thaw n).isRunning (slotOfCircuit n) = true :=
    (State.isRunning_of_slot (s.thaw_slot n _)).trans running
  have thawed : State.Thawed n { s.trippedStage (slotOfCircuit n) with prove := none }
      ((s.thaw n).trip (slotOfCircuit n) (freezeCategory n)) := by
    refine ⟨(State.thaw_trips running).rests, ?_⟩
    rw [State.trip_stage, if_pos runs]
    refine StageCtl.freeze_clearFreeze ?_ _
    cases n <;> rfl
  have k := State.thawed_keepsStarts (n := n)
    (r := { s.trippedStage (slotOfCircuit n) with prove := none }) idle ready
  rw [State.settleInto_stage]
  exact (State.settleStarts_keeps k _ s (State.stagesMoved_keeps k.toKeeps _ s thawed)).stopped

/-- R156: with its compressor not running the expiry stops the timer and nothing else. -/
theorem State.thaw_idle (idle : s.isRunning (slotOfCircuit n) = false) :
    ((s.thaw n).trip (slotOfCircuit n) (freezeCategory n)).stagesMoved s = s.thaw n := by
  rw [State.trip_idle ((State.isRunning_of_slot (s.thaw_slot n _)).trans idle)]
  refine State.stagesMoved_same ?_
  cases n <;> rfl

/-! ## Results applied (R165, R176) -/

/-- R174, R176: a result of a fitted channel of a NORMAL scanner is delivered on what it made of the
scanner and of the Fault Capture. -/
theorem State.externalComplete_delivers {ch : Channel} (code : BitVec 12)
    (normal : s.scan.state = .normal) (fitted : (s.sensor ch).state ≠ .unfitted) :
    ∃ (v : Scanner) (f : FaultCapture), s.externalComplete ch code =
      State.deliverResult { s with scan := v, fault := f } ch := by
  have state (r : Sensor) : (s.setSensor ch r).scan.state = .normal := normal
  unfold State.externalComplete
  dsimp only
  rw [if_neg fitted, state]
  dsimp only
  split
  · rw [State.raise_eq]
    exact ⟨_, _, rfl⟩
  · exact ⟨_, _, rfl⟩

theorem State.conversion_runs {ch : Channel} {rest : List Conversion} (code : BitVec 12)
    (hp : s.powered = true) (scan : s.scan.scan = .external ch :: rest) :
    exec (.conversionComplete code) s =
      .next ((State.externalComplete { s with scan.scan := rest } ch code).settleInto s) := by
  change execConversionComplete code s = _
  rw [execConversionComplete, scan]
  exact State.event_runs s _ _ hp rfl

/-- R165, R176: a completion of a fitted channel of a NORMAL scanner. -/
theorem State.resultApplied {ch : Channel} {rest : List Conversion} (code : BitVec 12)
    (hp : s.powered = true) (scan : s.scan.scan = .external ch :: rest)
    (normal : s.scan.state = .normal) (fitted : (s.sensor ch).state ≠ .unfitted) :
    ∃ (v : Scanner) (f : FaultCapture), exec (.conversionComplete code) s =
      .next ((State.deliverResult { s with scan := v, fault := f } ch).settleInto s) := by
  obtain ⟨v, f, delivers⟩ :=
    State.externalComplete_delivers (s := { s with scan.scan := rest }) (ch := ch) code normal fitted
  rw [State.conversion_runs code hp scan, delivers]
  exact ⟨v, f, rfl⟩

/-- R174: a completion of an unfitted channel is discarded. -/
theorem State.resultDiscarded {ch : Channel} {rest : List Conversion} (code : BitVec 12)
    (hp : s.powered = true) (scan : s.scan.scan = .external ch :: rest)
    (unfitted : (s.sensor ch).state = .unfitted) :
    exec (.conversionComplete code) s =
      .next (({ s with scan.scan := rest } : State).settleInto s) := by
  rw [State.conversion_runs code hp scan, State.externalComplete]
  dsimp only
  exact congrArg (fun u : State => Host.Outcome.next (u.settleInto s)) (if_pos unfitted)

theorem State.reading_congr {t : State} (sensors : t.scan.sensors = s.scan.sensors) (ch : Channel) :
    t.reading ch = s.reading ch := by
  rw [State.reading, State.sensor, sensors]
  rfl

theorem State.reading_unfitted {ch : Channel} (h : (s.sensor ch).state = .unfitted) :
    s.reading ch = none := by
  rw [State.reading, h]
  rfl

theorem State.stageFrame_scan {t : State} {v : Scanner} {f : FaultCapture}
    (h : ({ s with scan := v, fault := f } : State).stageFrame t) :
    s.stageFrame { t with scan := s.scan } :=
  ⟨by rw [h.1], h.2⟩

/-! ## A COILn result -/

theorem State.coilDelivered_slots (s : State) (n : Circuit) :
    (s.coilDelivered n).stage.slots = s.stage.slots ∧
      (s.coilDelivered n).stage.order = s.stage.order := by
  unfold State.coilDelivered
  split
  · split
    · exact s.testFreeze_slots n
    · exact s.stage.setFreeze_slots n none
  · exact s.stage.setFreeze_slots n none

theorem State.coilDelivered_adm (s : State) (n : Circuit) : (s.coilDelivered n).adm = s.adm := by
  unfold State.coilDelivered
  split
  · split
    · rw [State.testFreeze_eq]
    · rfl
  · rfl

/-- R154: a usable value below 10 loads a stopped freeze timer while the compressor runs. -/
theorem State.coilDelivered_cold {v : Int} (reading : s.reading (coilOf n) = some v) (cold : v < 10) :
    (s.coilDelivered n).stage.freeze n =
      if s.isRunning (slotOfCircuit n) = true ∧ s.stage.freeze n = none then some 60000
      else s.stage.freeze n := by
  simp only [State.coilDelivered, reading, if_pos cold, State.testFreeze]
  cases timer : s.stage.freeze n with
  | none =>
    by_cases running : s.isRunning (slotOfCircuit n) = true
    · simp [running, cold, StageCtl.freeze_setFreeze, freezeTime]
    · simp [running, timer]
  | some k => simp [timer]

theorem State.coilDelivered_warm {v : Int} (reading : s.reading (coilOf n) = some v)
    (warm : 10 ≤ v) : (s.coilDelivered n).stage.freeze n = none := by
  simp only [State.coilDelivered, reading, if_neg (Int.not_lt.2 warm)]
  exact StageCtl.freeze_setFreeze ..

theorem State.coilDelivered_unusable (reading : s.reading (coilOf n) = none) :
    (s.coilDelivered n).stage.freeze n = none := by
  simp only [State.coilDelivered, reading]
  exact StageCtl.freeze_setFreeze ..

theorem State.deliverResult_coil (s : State) (n : Circuit) :
    s.deliverResult (coilOf n) = s.coilDelivered n := by cases n <;> rfl

end

/-- R154: a COILn result, while no start can be taken. -/
theorem State.coilResult {s : State} {n : Circuit} {rest : List Conversion} (code : BitVec 12)
    (hp : s.powered = true) (scan : s.scan.scan = .external (coilOf n) :: rest)
    (normal : s.scan.state = .normal) (fitted : (s.sensor (coilOf n)).state ≠ .unfitted)
    (held : s.startsHeld = true) :
    ∃ t, exec (.conversionComplete code) s = .next t ∧
      (∀ v : Int, t.reading (coilOf n) = some v → v < 10 →
        t.stage.freeze n =
          if s.isRunning (slotOfCircuit n) = true ∧ s.stage.freeze n = none then some 60000
          else s.stage.freeze n) ∧
      (∀ v : Int, t.reading (coilOf n) = some v → 10 ≤ v → t.stage.freeze n = none) ∧
      (t.reading (coilOf n) = none → t.stage.freeze n = none) ∧
      t.stage.slots = s.stage.slots ∧ t.stage.order = s.stage.order ∧
      s.stageFrame { t with scan := s.scan } := by
  obtain ⟨v, f, runs⟩ := State.resultApplied code hp scan normal fitted
  generalize hw : ({ s with scan := v, fault := f } : State) = w at runs
  have running : w.isRunning (slotOfCircuit n) = s.isRunning (slotOfCircuit n) := by subst hw; rfl
  have stage : w.stage = s.stage := by subst hw; rfl
  rw [w.deliverResult_coil] at runs
  have frame := State.stageFrame_trans (w.coilDelivered_frame n) (State.settleInto_frame _ s)
  have starts : (w.coilDelivered n).startsHeld = true :=
    State.startsHeld_congr held (by rw [w.coilDelivered_adm]; subst hw; rfl)
      (by rw [(w.coilDelivered_frame n).station_eq]; subst hw; rfl)
  obtain ⟨-, -, settled⟩ := State.settleInto_plant s starts
  obtain ⟨slots, order⟩ := w.coilDelivered_slots n
  generalize State.settleInto _ s = t at *
  have reading := State.reading_congr (congrArg Scanner.sensors frame.scan_eq) (coilOf n)
  have freeze : t.stage.freeze n = (w.coilDelivered n).stage.freeze n := by
    rw [settled]
    cases n <;> rfl
  refine ⟨t, runs, ?_⟩
  rw [reading, freeze]
  refine ⟨fun v value cold => ?_, fun v value warm => State.coilDelivered_warm value warm,
    State.coilDelivered_unusable, ?_, ?_, State.stageFrame_scan (hw ▸ frame)⟩
  · rw [State.coilDelivered_cold value cold, running, stage]
  · rw [settled, ← stage]
    exact slots
  · rw [settled, ← stage]
    exact order

/-! ## A SUPPLY result -/

section
variable {s : State}

theorem State.heatLimit_above {v : Int} (reading : s.reading .supply = some v) (above : 600 < v) :
    s.heatLimit = s.moveAll (fun s i => s.trip i .heatLimit) [.h1, .h2] := by
  simp only [State.heatLimit, reading, if_pos above]

theorem State.heatLimit_within (within : ∀ v : Int, s.reading .supply = some v → v ≤ 600) :
    s.heatLimit = s := by
  unfold State.heatLimit
  split
  · rename_i v reading
    exact if_neg (Int.not_lt.2 (within v reading))
  · rfl

theorem State.heatLimit_tripsAtMost : TripsAtMost .heatLimit fun s i => s.trip i .heatLimit :=
  fun _ _ => .inl rfl

/-- A stage that runs is not made READY. -/
theorem Stage.stands_unready : Stage.Stands (fun q => q.state ≠ .ready) where
  stop _ q _ _ h := by rw [h]; nofun
  start _ q _ _ h := by rcases h with h | h | h <;> rw [h] <;> nofun

/-- A stage that the event does not trip comes to no TRIPPED and no LOCKED. -/
theorem Stage.stands_untripped : Stage.Stands (fun q => q.state ≠ .tripped ∧ q.state ≠ .locked) where
  stop _ q _ _ h := by rw [h]; exact ⟨nofun, nofun⟩
  start _ q _ _ h := by rcases h with h | h | h <;> rw [h] <;> exact ⟨nofun, nofun⟩

theorem Stage.Stands.evaluate {A : Stage → Prop} (k : Stage.Stands A) {i : Slot} (cause : EvalCause)
    (h : A (s.slot i)) : A ((s.evaluate cause).slot i) :=
  (k.carried i).evaluate h

/-- R155: every heat stage that the limit test finds is left not running, tripped or stopped by the
evaluation before it. -/
theorem State.heatLimit_stops {i : Slot} (heating : sideOf i = .heating) (ready : (s.slot i).state ≠ .ready)
    (before : State) :
    ((s.moveAll (fun s i => s.trip i .heatLimit) [.h1, .h2]).settleInto before).isRunning i = false := by
  cases running : s.isRunning i with
  | true =>
    have tripped := State.moveAll_trips State.heatLimit_tripsAtMost running (fun _ _ => rfl) _
      (State.mem_heatStages heating) ⟨rfl, rfl⟩
    obtain ⟨slot, -⟩ := tripped.settled before
    rw [State.isRunning_of_slot slot]
    split <;> rfl
  | false =>
    have passed := State.moveEach_passes State.heatLimit_tripsAtMost
      (fun t same => State.trip_idle ((State.isRunning_of_slot same).trans running) .heatLimit)
      [.h1, .h2] (s := s) (t := s) ⟨rfl, rfl⟩
    have fixed := Stage.stands_fixed (r := s.slot i)
      (fun free => by rw [State.isRunning, State.stageState, free] at running; cases running) ready
    have slot : ((s.moveAll (fun s i => s.trip i .heatLimit) [.h1, .h2]).settleInto before).slot i =
        s.slot i :=
      fixed.settleInto before ((fixed.carried i).serveWanted 4 _ _ passed.slot)
    exact (State.isRunning_of_slot slot).trans running

/-- R155: a heat stage that the evaluation cannot stop is tripped by the limit test after it. -/
theorem State.heatLimit_trips {w : State} {i : Slot} (heating : sideOf i = .heating)
    (found : s.stageState i = .proving ∨ s.stageState i = .runLock) (slot : w.slot i = s.slot i)
    (seconds : w.seconds = s.seconds) (before : State) :
    s.tripTaken (((w.evaluate).moveAll (fun s i => s.trip i .heatLimit) [.h1, .h2]).settleInto before)
      i .heatLimit := by
  have running : s.isRunning i = true := by
    rw [State.isRunning]
    rcases found with h | h <;> rw [h] <;> rfl
  have fixed := Stage.stands_fixed (r := s.slot i)
    (by rw [← State.stageState]; rcases found with h | h <;> rw [h] <;> nofun)
    (by rw [← State.stageState]; rcases found with h | h <;> rw [h] <;> nofun)
  have evaluated : s.SameSlot i w.evaluate :=
    ⟨fixed.evaluate .plain slot, by rw [(w.evaluate_frame .plain).1]; exact seconds⟩
  exact (State.moveAll_trips State.heatLimit_tripsAtMost running (fun _ _ => rfl) _
    (State.mem_heatStages heating) evaluated).settled before

theorem State.deliverResult_supply (s : State) :
    s.deliverResult .supply = s.evaluate.heatLimit := rfl

theorem State.running_untripped {i : Slot} (h : s.isRunning i = true) :
    s.stageState i ≠ .tripped ∧ s.stageState i ≠ .locked ∧ s.stageState i ≠ .ready := by
  rw [State.isRunning] at h
  refine ⟨?_, ?_, ?_⟩ <;> rintro state <;> rw [state] at h <;> cases h

end

/-- R155, R156: what a SUPPLY result is held to. -/
structure State.Limited (s t : State) : Prop where
  above : ∀ v : Int, t.reading .supply = some v → 600 < v →
    ∀ i : Slot, sideOf i = .heating →
      (s.isRunning i = true → t.isRunning i = false) ∧
        (s.stageState i = .proving ∨ s.stageState i = .runLock → s.tripTaken t i .heatLimit)
  within : (∀ v : Int, t.reading .supply = some v → v ≤ 600) →
    ∀ i : Slot, s.isRunning i = true → t.stageState i ≠ .tripped ∧ t.stageState i ≠ .locked
  frame : s.stageFrame { t with scan := s.scan }

theorem State.supplyResult_fitted {s : State} (v : Scanner) (f : FaultCapture) :
    s.Limited ((State.deliverResult { s with scan := v, fault := f } .supply).settleInto s) := by
  have slot (i : Slot) : ({ s with scan := v, fault := f } : State).slot i = s.slot i := rfl
  have seconds : ({ s with scan := v, fault := f } : State).seconds = s.seconds := rfl
  have moved (t : State) : ({ s with scan := v, fault := f } : State).stageFrame t →
      s.stageFrame { t with scan := s.scan } := State.stageFrame_scan
  generalize ({ s with scan := v, fault := f } : State) = w at *
  rw [State.deliverResult_supply]
  have limited := State.stageFrame_trans w.evaluate.heatLimit_frame
    (State.settleInto_frame w.evaluate.heatLimit s)
  have reading := State.reading_congr (congrArg Scanner.sensors limited.scan_eq) .supply
  refine ⟨fun v value above i heating => ?_, fun within i runs => ?_,
    moved _ (State.stageFrame_trans (w.evaluate_frame .plain) limited)⟩
  · rw [reading] at value
    rw [State.heatLimit_above value above]
    refine ⟨fun runs => State.heatLimit_stops heating (Stage.stands_unready.evaluate .plain ?_) s,
      fun found => State.heatLimit_trips heating found (slot i) seconds s⟩
    rw [slot i]
    exact (State.running_untripped runs).2.2
  · rw [State.heatLimit_within fun v value => within v (reading.trans value)]
    obtain ⟨tripped, locked, -⟩ := State.running_untripped runs
    refine Stage.stands_untripped.settleInto s (Stage.stands_untripped.evaluate .plain ?_)
    rw [slot i]
    exact ⟨tripped, locked⟩

theorem State.supplyResult_unfitted {s : State} (rest : List Conversion)
    (unfitted : (s.sensor .supply).state = .unfitted) :
    s.Limited (({ s with scan.scan := rest } : State).settleInto s) := by
  have slot (i : Slot) : ({ s with scan.scan := rest } : State).slot i = s.slot i := rfl
  have none := State.reading_unfitted (s := { s with scan.scan := rest }) (ch := .supply) unfitted
  have moved (t : State) : ({ s with scan.scan := rest } : State).stageFrame t →
      s.stageFrame { t with scan := s.scan } := fun h => ⟨by rw [h.1], h.2⟩
  generalize ({ s with scan.scan := rest } : State) = w at *
  have frame := State.settleInto_frame w s
  have reading := State.reading_congr (congrArg Scanner.sensors frame.scan_eq) .supply
  refine ⟨fun v value => ?_, fun _ i runs => ?_, moved _ frame⟩
  · rw [reading, none] at value
    cases value
  · obtain ⟨tripped, locked, -⟩ := State.running_untripped runs
    refine Stage.stands_untripped.settleInto s ?_
    rw [slot i]
    exact ⟨tripped, locked⟩

/-- Settles O47: the trip or the stopped timer of the freeze expiry, the freeze test of a coil result,
and the heat limit of a supply result after its evaluation. -/
theorem freezeExpiryTrips : Obligations.FreezeExpiryTrips := by
  refine ⟨fun s n hp timer running => ?_, fun s n hp timer idle held => ?_,
    fun s n rest code hp scan normal fitted held => State.coilResult code hp scan normal fitted held,
    fun s rest code hp scan normal => ?_⟩
  · have thawed : s.stageFrame (s.thaw n) := ⟨rfl, rfl⟩
    exact ⟨_, State.freezeExpiry_runs hp timer, ((State.thaw_trips running).stagesMoved s).settled s,
      State.thaw_stays running, State.stageFrame_trans
        ((State.stageFrame_trans thawed (State.trip_frame ..)).stagesMoved s)
        (State.settleInto_frame _ s)⟩
  · have runs := State.freezeExpiry_runs hp timer
    rw [State.thaw_idle idle] at runs
    have starts : (s.thaw n).startsHeld = true := held
    obtain ⟨-, -, stage⟩ := State.settleInto_plant s starts
    refine ⟨_, runs, ?_, ?_, State.settleInto_fault _ s,
      State.stageFrame_trans ⟨rfl, rfl⟩ (State.settleInto_frame _ s)⟩
    · rw [stage]
      cases n <;> rfl
    · rw [stage]
      exact (s.stage.setFreeze_slots n none).1
  · by_cases unfitted : (s.sensor .supply).state = .unfitted
    · have p := State.supplyResult_unfitted rest unfitted
      exact ⟨_, State.resultDiscarded code hp scan unfitted, p.above, p.within, p.frame⟩
    · obtain ⟨v, f, runs⟩ := State.resultApplied code hp scan normal unfitted
      have p := State.supplyResult_fitted (s := s) v f
      exact ⟨_, runs, p.above, p.within, p.frame⟩

end Sys2Proof.Machine

/-! # The min-run expiry (R146, R147) -/

namespace Sys2Proof.Machine

section
variable {s : State} {i : Slot}

/-- R146: the slot freed, before its report. -/
def State.freed (s : State) (i : Slot) : State :=
  s.setSlot i { s.slot i with state := .runFree, timer := none }

theorem State.minRunExpiry_runs (hp : s.powered = true) (timer : (s.slot i).timer.isSome = true)
    (locked : s.stageState i = .runLock) :
    exec (.minRunExpiry i) s = .next ((s.freeSlot i).settleInto s) := by
  change execMinRunExpiry i s = _
  rw [execMinRunExpiry, State.event_runs s _ _ hp (by simp [timer, locked])]

theorem State.freeSlot_eq (s : State) (i : Slot) : s.freeSlot i = State.serveWanted 4 s.mode
    (((s.freed i).reportMove s).moveEach State.stopSlot ((s.freed i).stopsDue (sideOf i))) := rfl

theorem State.freeSlot_fault (s : State) (i : Slot) : (s.freeSlot i).fault = s.fault := by
  have k := (State.blind_fault s.fault).keeps
  rw [State.freeSlot_eq]
  exact State.serveWanted_keeps k 4 _ _ (State.moveEach_keeps k _ k.stop _ _
    (State.reportMove_keeps k _ s (State.setSlot_fault ..)))

theorem State.freed_slot (s : State) (i : Slot) :
    (s.freed i).slot i = { s.slot i with state := .runFree, timer := none } :=
  State.slot_setSlot_self ..

/-- R146: the freed stage runs on. -/
theorem State.freed_runs (locked : s.stageState i = .runLock) (j : Slot) :
    (s.freed i).isRunning j = s.isRunning j := by
  rw [State.isRunning_of_slot (s := s.freed i) (State.slot_setSlot s i j _)]
  split
  · rename_i own
    rw [own, State.isRunning, locked]
    rfl
  · rfl

/-! ## A side that wants none -/

/-- R147: a side that wants none is due to stop every stage of it in RUN_FREE. -/
theorem State.mem_stopsDue (law : s.orderLaw = true) (none : s.wanted (sideOf i) = 0)
    (free : s.stageState i = .runFree) : i ∈ s.stopsDue (sideOf i) := by
  obtain ⟨nodup, listed⟩ := s.orderLaw_iff.1 law
  have running : s.isRunning i = true := by
    rw [State.isRunning, free]
    rfl
  rw [State.stopsDue, none, Nat.sub_zero, List.take_of_length_le]
  · simpa [free] using (listed i).2 running
  · refine ((List.nodup_reverse.2 nodup).filter _).subperm (fun j hj => ?_) |>.length_le
    obtain ⟨hj, due⟩ := List.mem_filter.1 hj
    simp only [Bool.and_eq_true, beq_iff_eq] at due
    refine List.mem_filter.2 ⟨?_, (listed j).1 (List.mem_reverse.1 hj)⟩
    rw [← due.1]
    cases j <;> decide

/-- R146, R147: the freed stage stopped at its own event. -/
theorem State.freed_stops (locked : s.stageState i = .runLock) (law : s.orderLaw = true)
    (none : s.wanted (sideOf i) = 0) : (s.freeSlot i).Rests i (s.stoppedStage i) := by
  have due : i ∈ (s.freed i).stopsDue (sideOf i) :=
    State.mem_stopsDue (State.orderLaw_congr (s := s) rfl (State.freed_runs locked) law) none
      (congrArg Stage.state (s.freed_slot i))
  have slot := ((s.freed i).slot_reportMove s i).trans (s.freed_slot i)
  have config := ((s.freed i).reportMove_frame s).config_eq
  generalize hw : (s.freed i).reportMove s = w at slot config
  have rests := State.moveEach_stop_rests _ w due (State.isRunning_of_slot slot)
  have same : w.stoppedStage i = s.stoppedStage i := by
    rw [State.stoppedStage, slot, State.slotConfig, State.cfg_congr config]
    rfl
  rw [same] at rests
  rw [State.freeSlot_eq, hw]
  exact State.serveWanted_keeps (State.rests_keeps rfl) 4 _ _ rests

/-! ## A side that wants what runs -/

/-- R108: an evaluation in CONFIG forms no counts. -/
theorem State.formMode_config_wanted (config : s.station.state = .config) (cause : EvalCause) :
    (s.formMode cause).wantedCool = s.mode.wantedCool ∧
      (s.formMode cause).wantedHeat = s.mode.wantedHeat := by
  rw [State.formMode_config config]
  exact ⟨rfl, rfl⟩

/-- R137: freeing a stage changes nothing that the counts depend on. -/
theorem State.freed_reported (locked : s.stageState i = .runLock) :
    s.SameAim ((s.freed i).reportStages s) ∧ ((s.freed i).reportStages s).mode = s.mode := by
  have frame := State.stageFrame_trans (s.setSlot_frame i { s.slot i with
    state := .runFree, timer := none }) (State.reportStages_frame _ s)
  have runs := State.freed_runs locked
  have counts (j : Slot) : ((s.freed i).reportStages s).isRunning j = s.isRunning j :=
    (State.isRunning_congr (by rw [State.reportStages_stage]) j).trans (runs j)
  refine ⟨?_, ?_⟩
  · exact
      { config := frame.config_eq, table := frame.table_eq, scan := frame.scan_eq
        inputs := frame.inputs_eq
        working := by rw [State.freed, frame.station_eq]
        inConfig := by rw [State.freed, frame.station_eq]
        counts := State.runningCount_congr counts }
  · rw [State.reportStages_eq, State.movedMode_same runs]
    split
    · rfl
    · rw [State.requestState_mode]
      rfl

/-- R116, R137: the evaluation that the report brings forms the counts it would have formed before. -/
theorem State.freed_wanted (locked : s.stageState i = .runLock) :
    (((s.freed i).reportStages s).formMode .plain).wantedCool = (s.formMode .plain).wantedCool ∧
      (((s.freed i).reportStages s).formMode .plain).wantedHeat =
        (s.formMode .plain).wantedHeat := by
  obtain ⟨aim, mode⟩ := State.freed_reported locked
  by_cases config : s.station.state = .config
  · obtain ⟨cool, heat⟩ := State.formMode_config_wanted (aim.inConfig.2 config) .plain
    obtain ⟨cool', heat'⟩ := State.formMode_config_wanted config .plain
    rw [cool, heat, cool', heat', mode]
    exact ⟨rfl, rfl⟩
  · exact aim.wanted mode config

theorem State.freed_reportMove (locked : s.stageState i = .runLock) :
    (s.freed i).reportMove s = ((s.freed i).reportStages s).evaluateOnce .plain := by
  rw [State.reportMove, if_neg]
  intro same
  have own := congrArg (fun p => PerSlot.get p i) same
  simp only [State.stageStates, PerSlot.get_of] at own
  rw [locked, State.stageState, s.freed_slot i] at own
  cases own

/-- The counts that the freed stage's report leaves are the ones the event would have formed before. -/
theorem State.freed_mode (locked : s.stageState i = .runLock) :
    ((s.freed i).reportMove s).mode.wantedCool = (s.formMode .plain).wantedCool ∧
      ((s.freed i).reportMove s).mode.wantedHeat = (s.formMode .plain).wantedHeat := by
  rw [State.freed_reportMove locked, State.evaluateOnce_mode]
  exact State.freed_wanted locked

/-- R151: with one side alone running, only the freed stage's side has stages to stop. -/
theorem State.oneSide_within (one : s.oneSide = true) (running : s.isRunning i = true)
    {m : ModeLogic}
    (within : s.runningCount (sideOf i) ≤ ({ s with mode := m } : State).wanted (sideOf i)) :
    s.runningCount .cooling ≤ m.wantedCool ∧ s.runningCount .heating ≤ m.wantedHeat := by
  have idle (d : Side) (other : sideOf i ≠ d) : s.runningCount d = 0 := by
    rw [State.runningCount_zero_iff]
    intro j side
    by_contra runs
    exact other ((s.oneSide_iff.1 one i j running (Bool.eq_true_of_not_eq_false runs)).trans side)
  cases side : sideOf i with
  | cooling =>
    rw [side] at within
    exact ⟨within, by rw [idle .heating (by rw [side]; nofun)]; exact Nat.zero_le _⟩
  | heating =>
    rw [side] at within
    exact ⟨by rw [idle .cooling (by rw [side]; nofun)]; exact Nat.zero_le _, within⟩

/-- R147: no stop is due before and after the evaluation. -/
theorem State.freed_stays (locked : s.stageState i = .runLock) (one : s.oneSide = true)
    (before : s.runningCount (sideOf i) ≤ s.wanted (sideOf i))
    (after : s.runningCount (sideOf i) ≤
      ({ s with mode := s.formMode .plain } : State).wanted (sideOf i)) :
    s.freeSlot i = (s.freed i).reportMove s := by
  have running : s.isRunning i = true := State.running_of_locked (.inl locked)
  obtain ⟨cool, heat⟩ := State.oneSide_within one running after
  obtain ⟨coolFormed, heatFormed⟩ := State.freed_mode locked
  have counts := State.runningCount_congr (State.freed_runs locked)
  have reported := State.runningCount_congr (s := s.freed i) (t := (s.freed i).reportMove s)
    (State.isRunning_congr ((s.freed i).reportMove_stage s).1)
  have due : (s.freed i).stopsDue (sideOf i) = [] := by
    rw [State.stopsDue, counts, Nat.sub_eq_zero_of_le, List.take_zero]
    exact before
  rw [State.freeSlot_eq, due]
  refine State.serveWanted_within (s := (s.freed i).reportMove s) 4 (.inr ?_) (.inr ?_)
  · rw [reported, counts, coolFormed]
    exact cool
  · rw [reported, counts, heatFormed]
    exact heat

/-- The report of the freed stage takes no start. -/
theorem State.freed_held (held : s.startsHeld = true) :
    ((s.freed i).reportMove s).startsHeld = true := by
  have starts : (s.freed i).startsHeld = true := held
  have kept := State.reportMove_keeps (s.freed i).eventKept_keeps _ s (.refl _)
  exact State.startsHeld_congr starts (by rw [kept.adm.1]) ((s.freed i).reportMove_frame s).station_eq

end

/-- Settles O45: a freed stage is stopped at its own event by a side that wants none, and left running by
one that wants what runs. -/
theorem minRunFreesTheStage : Obligations.MinRunFreesTheStage := by
  refine ⟨fun s i hp locked timer law none => ?_,
    fun s i hp locked timer one held before after => ?_⟩
  · have stopped := State.stopTaken_settleInto s (State.freed_stops locked law none)
    obtain ⟨state, minOff, -, -, order, -⟩ := stopped
    exact ⟨_, State.minRunExpiry_runs hp timer locked, state, minOff, order,
      (State.settleInto_fault _ s).trans (s.freeSlot_fault i),
      State.stageFrame_trans (s.freeSlot_frame i) (State.settleInto_frame _ s)⟩
  · have runs := State.minRunExpiry_runs hp timer locked
    have stays := State.freed_stays locked one before after
    have starts := State.freed_held (i := i) held
    rw [← stays] at starts
    obtain ⟨-, -, stage⟩ := State.settleInto_plant s starts
    have slot : ((s.freeSlot i).settleInto s).slot i =
        { s.slot i with state := .runFree, timer := none } := by
      rw [State.slot_congr (s := s.freeSlot i) (by rw [stage]) i, stays, State.slot_reportMove,
        s.freed_slot]
    exact ⟨_, runs, slot, State.settleInto_pinHigh slot rfl,
      (State.settleInto_fault _ s).trans (s.freeSlot_fault i),
      State.stageFrame_trans (s.freeSlot_frame i) (State.settleInto_frame _ s)⟩

end Sys2Proof.Machine

/-! # The fan proof (R138, R139) -/

namespace Sys2Proof.Machine

/-! ## The fan proof through the evaluations, stops and starts of an event -/

/-- The station state and the fan proof with its timer. -/
structure State.SameFan (s t : State) : Prop where
  station : t.station = s.station
  proof : t.stage.fanProof = s.stage.fanProof
  timer : t.stage.fanProofTimer = s.stage.fanProofTimer

namespace State.SameFan

theorem refl (s : State) : s.SameFan s := ⟨rfl, rfl, rfl⟩

theorem trans {a b c : State} (h : a.SameFan b) (k : b.SameFan c) : a.SameFan c :=
  ⟨k.station.trans h.station, k.proof.trans h.proof, k.timer.trans h.timer⟩

/-- An operation that leaves the Stage Controller alone. -/
theorem of_stage {s t : State} (station : t.station = s.station) (stage : t.stage = s.stage) :
    s.SameFan t := ⟨station, by rw [stage], by rw [stage]⟩

end State.SameFan

theorem State.requestState_sameFan (s : State) (roll : Bool) : s.SameFan (s.requestState roll) :=
  .of_stage (s.requestState_frame roll).station_eq (s.requestState_stage roll)

theorem State.reportStages_sameFan (s before : State) : s.SameFan (s.reportStages before) :=
  .of_stage (s.reportStages_frame before).station_eq (s.reportStages_stage before)

theorem State.stopSlot_sameFan (s : State) (i : Slot) : s.SameFan (s.stopSlot i) := by
  unfold State.stopSlot
  split
  · cases i <;> exact ⟨rfl, rfl, rfl⟩
  · exact .refl s

theorem State.testFreeze_sameFan (s : State) (n : Circuit) : s.SameFan (s.testFreeze n) := by
  refine ⟨(s.testFreeze_frame n).station_eq, ?_, ?_⟩ <;>
  · unfold State.testFreeze
    repeat' split
    all_goals cases n <;> rfl

theorem State.testHeatProve_sameFan (s : State) (i : Slot) : s.SameFan (s.testHeatProve i) := by
  unfold State.testHeatProve
  split
  · exact ⟨rfl, rfl, rfl⟩
  · exact .refl s

theorem State.startSlot_sameFan (s : State) (i : Slot) : s.SameFan (s.startSlot i) := by
  have stored (r : Stage) : s.SameFan { s.setSlot i r with
      stage.order := s.stage.order ++ [i], stage.interStage := some interStageTime } :=
    ⟨rfl, rfl, rfl⟩
  unfold State.startSlot
  cases i with
  | c1 | c2 => exact (stored _).trans (State.testFreeze_sameFan _ _)
  | h1 | h2 => exact (stored _).trans (State.testHeatProve_sameFan _ _)

/-- R77, R138: no decision touches the fan proof. -/
theorem State.Decision.sameFan {s t : State} {i : Slot} (d : s.Decision i t) : s.SameFan t := by
  have station := d.frame.station_eq
  cases d with
  | claim level headroom =>
    exact ⟨station, by simp [State.openClaim]; rfl, by simp [State.openClaim]; rfl⟩
  | shed level headroom needed =>
    exact ⟨station, by simp [State.callShed]; rfl, by simp [State.callShed]; rfl⟩
  | denied => exact ⟨station, rfl, rfl⟩
  | granted level headroom mode =>
    have started := State.startSlot_sameFan
      { s.judged level headroom with adm.denials := 0, stage.presented := none } i
    exact ⟨station, by rw [State.grant, State.grantMode_stage, started.proof]; rfl,
      by rw [State.grant, State.grantMode_stage, started.timer]; rfl⟩

/-- R138: a fan command does nothing to a fan whose proof is not IDLE. -/
theorem State.fanCommanded_on {s : State} (h : s.stage.fanProof ≠ .idle) :
    s.fanCommanded true = s := by
  unfold State.fanCommanded
  rw [if_pos rfl]
  split
  · exact absurd ‹_› h
  · rfl

/-- R126: a plain evaluation in a working state turns no fan off. -/
theorem State.formMode_fan_stays {s : State} (working : s.station.state.working = true)
    (on : s.mode.fan = true) : (s.formMode .plain).fan = true := by
  have aimed : s.aimed.fan = true := s.aimed_sameCalls.fan.trans on
  rw [State.formMode_eq (State.working_not_config working)]
  show (s.formFan .plain s.aimed).fan = true
  rw [State.formFan, if_pos working]
  by_cases demand : s.fanDemand s.aimed = true
  · rw [if_pos demand]
  · rw [if_neg demand, if_pos aimed, if_neg nofun]
    exact aimed

theorem State.handFan_same {s : State} {before : ModeLogic} (proof : s.stage.fanProof ≠ .idle)
    (stays : before.fan = true → s.mode.fan = true) : s.handFan before = s := by
  unfold State.handFan
  split
  · rfl
  · rename_i changed
    cases off : before.fan with
    | true => exact absurd ((stays off).trans off.symm) changed
    | false =>
      have on : s.mode.fan = true := by
        rw [off] at changed
        exact Bool.eq_true_of_not_eq_false changed
      rw [on, State.fanCommanded_on proof]

section
variable {z : State} (working : z.station.state.working = true)
  (commanded : z.stage.fanProof ≠ .idle)
include working commanded

/-- R126, R138: a plain evaluation leaves a fan whose proof is not IDLE to it. -/
theorem State.SameFan.evaluateOnce {t : State} (h : z.SameFan t) :
    z.SameFan (t.evaluateOnce .plain) := by
  refine h.trans ?_
  have stays := State.formMode_fan_stays (s := t) (by rw [h.station]; exact working)
  have proof : t.stage.fanProof ≠ .idle := by
    rw [h.proof]
    exact commanded
  have demand (u : State) (b : ModeLogic) :
      (u.handDemand b).stage = u.stage ∧ (u.handDemand b).mode = u.mode := by
    unfold State.handDemand
    split <;> exact ⟨rfl, rfl⟩
  have report (u : State) (b : ModeLogic) : (u.handReport b).stage = u.stage := by
    unfold State.handReport
    split
    · rfl
    · exact u.requestState_stage false
  obtain ⟨stage, mode⟩ := demand { t with mode := t.formMode .plain } t.mode
  refine .of_stage (t.evaluateOnce_frame .plain).station_eq ?_
  rw [State.evaluateOnce, report, State.handFan_same (by rw [stage]; exact proof)
    (by rw [mode]; exact stays), stage]

theorem State.SameFan.reportMove {t : State} (h : z.SameFan t) (before : State) :
    z.SameFan (t.reportMove before) := by
  unfold State.reportMove
  split
  · exact h
  · exact State.SameFan.evaluateOnce working commanded (h.trans (t.reportStages_sameFan before))

theorem State.SameFan.stops (l : List Slot) {t : State} (h : z.SameFan t) :
    z.SameFan (t.moveEach State.stopSlot l) := by
  induction l generalizing t with
  | nil => exact h
  | cons j rest ih =>
    rw [State.moveEach_cons]
    exact ih (State.SameFan.reportMove working commanded (h.trans (t.stopSlot_sameFan j)) t)

theorem State.SameFan.serveWanted (fuel : Nat) :
    ∀ (tested : ModeLogic) {t : State}, z.SameFan t → z.SameFan (State.serveWanted fuel tested t) := by
  induction fuel with
  | zero => exact fun _ _ h => h
  | succ n ih =>
    intro tested t h
    unfold State.serveWanted
    split
    · exact h
    · exact ih _ (State.SameFan.stops working commanded _ h)

theorem State.SameFan.serveStarts {t : State} (h : z.SameFan t) : z.SameFan t.serveStarts := by
  have selected (u : State) : u.SameFan u.select := ⟨rfl, rfl, rfl⟩
  have taken : t.select.SameFan t.select.takeRequest := by
    rcases t.select.takeRequest_decides with same | ⟨i, -, -, -, decision⟩
    · rw [same]
      exact .refl _
    · exact decision.sameFan
  have moved := State.SameFan.serveWanted working commanded 4 t.select.takeRequest.mode
    (State.SameFan.reportMove working commanded ((h.trans (selected t)).trans taken) t.select)
  exact moved.trans (selected _)

/-- R138: the fan proof at the end of the event. -/
theorem State.SameFan.settleInto {t : State} (h : z.SameFan t) (before : State) :
    z.SameFan (t.settleInto before) := by
  have served := State.SameFan.serveStarts working commanded h
  have offered : t.serveStarts.SameFan (t.settleStarts before) := by
    unfold State.settleStarts State.reportOffer
    split
    · exact .refl _
    · exact State.requestState_sameFan _ false
  rw [State.settleInto]
  exact (served.trans offered).trans (.of_stage (State.drivePins_station _) (State.drivePins_stage _))

end

/-- R138: what follows the effect of an event leaves a fan proof that is not IDLE: in a working state no
evaluation turns the fan off, and in any other none is made. -/
theorem State.settleInto_fan {t : State} (proof : t.stage.fanProof ≠ .idle) (before : State) :
    (t.settleInto before).stage.fanProof = t.stage.fanProof ∧
      (t.settleInto before).stage.fanProofTimer = t.stage.fanProofTimer := by
  by_cases working : t.station.state.working = true
  · have same := State.SameFan.settleInto working proof (.refl t) before
    exact ⟨same.proof, same.timer⟩
  · obtain ⟨-, -, stage⟩ := State.settleInto_plant before
      (t.startsHeld_iff.2 (.inr (Bool.eq_false_iff.2 working)))
    rw [stage]
    exact ⟨rfl, rfl⟩

/-! ## FAN_PROOF_EXPIRY -/

section
variable {s : State}

/-- The fan proof as a proven one leaves it. -/
def State.fanProven (s : State) : State :=
  { s with stage.fanProof := .proven, stage.fanProofTimer := none }

/-- The fan proof as a failed one leaves it, before its stops. -/
def State.fanFailed (s : State) : State :=
  { s with stage.fanProof := .failed, stage.fanProofTimer := none }

theorem State.failFanProof_eq (s : State) :
    s.failFanProof = (s.fanFailed.moveAll State.stopSlot allSlots).raise .fanProve := rfl

theorem State.fanProofExpiry_proves (hp : s.powered = true)
    (timer : s.stage.fanProofTimer.isSome = true) (waiting : s.stage.fanProof = .waiting)
    (active : s.accepted .fanProve = .active) :
    exec .fanProofExpiry s = .next (s.fanProven.settleInto s) := by
  change execFanProofExpiry s = _
  rw [execFanProofExpiry, State.event_runs s _ _ hp timer]
  simp only [waiting, State.active, active, beq_self_eq_true, if_true]
  rfl

theorem State.fanProofExpiry_fails (hp : s.powered = true)
    (timer : s.stage.fanProofTimer.isSome = true)
    (unproven : (s.stage.fanProof = .waiting ∧ s.accepted .fanProve ≠ .active) ∨
      s.stage.fanProof = .recovering) :
    exec .fanProofExpiry s = .next (s.failFanProof.settleInto s) := by
  change execFanProofExpiry s = _
  rw [execFanProofExpiry, State.event_runs s _ _ hp timer]
  rcases unproven with ⟨waiting, inactive⟩ | recovering
  · simp only [waiting, State.active, beq_iff_eq, if_neg inactive]
  · simp only [recovering]

/-- R138, R139: the fan proof at the end of the event that fails it. -/
theorem State.failFanProof_fan (working : s.station.state.working = true) :
    (s.failFanProof.settleInto s).stage.fanProof = .failed ∧
      (s.failFanProof.settleInto s).stage.fanProofTimer = none := by
  have works : s.fanFailed.station.state.working = true := working
  have failed : s.fanFailed.stage.fanProof = .failed := rfl
  have commanded : s.fanFailed.stage.fanProof ≠ .idle := by
    rw [failed]
    nofun
  have stopped : s.fanFailed.SameFan (s.fanFailed.moveAll State.stopSlot allSlots) :=
    State.SameFan.serveWanted works commanded 4 _ (State.SameFan.stops works commanded _ (.refl _))
  rw [State.failFanProof_eq]
  generalize s.fanFailed.moveAll State.stopSlot allSlots = w at stopped
  have raised : w.SameFan (w.raise .fanProve) :=
    .of_stage (w.raise_frame .fanProve).station_eq (by rw [State.raise_eq])
  have settled := State.SameFan.settleInto works commanded (stopped.trans raised) s
  exact ⟨settled.proof.trans failed, settled.timer⟩

/-- R139, R149: every running stage is stopped by a failed fan proof. -/
theorem State.failFanProof_stops {i : Slot} (running : s.isRunning i = true) :
    s.stopTaken (s.failFanProof.settleInto s) i := by
  have stopped : (s.fanFailed.moveAll State.stopSlot allSlots).Rests i (s.stoppedStage i) :=
    State.serveWanted_keeps (State.rests_keeps rfl) 4 _ _
      (State.moveEach_stop_rests allSlots s.fanFailed (mem_allSlots i) running)
  have raised := State.raise_eq (s.fanFailed.moveAll State.stopSlot allSlots) .fanProve
  refine State.stopTaken_settleInto s (stopped.of_stage ?_ ?_)
  · rw [State.failFanProof_eq, raised]
  · rw [State.failFanProof_eq, raised]

/-! ## FAN_PROVE -/

/-- R138: the fan proof after FAN_PROVE ACTIVATED. -/
theorem State.fanProveOn_fan (s : State) :
    s.fanProveOn.stage.fanProof =
        (if s.stage.fanProof = .recovering ∨ s.stage.fanProof = .failed then .proven
         else s.stage.fanProof) ∧
      s.fanProveOn.stage.fanProofTimer =
        (if s.stage.fanProof = .recovering then none else s.stage.fanProofTimer) := by
  unfold State.fanProveOn
  cases proof : s.stage.fanProof <;> simp [proof]

/-- R138: the fan proof after FAN_PROVE DEACTIVATED. -/
theorem State.fanProveOff_fan (s : State) :
    s.fanProveOff.stage.fanProof =
        (if s.stage.fanProof = .proven then .recovering else s.stage.fanProof) ∧
      s.fanProveOff.stage.fanProofTimer =
        (if s.stage.fanProof = .proven then some 30000 else s.stage.fanProofTimer) := by
  unfold State.fanProveOff
  cases proof : s.stage.fanProof <;> simp [proof, fanProofTime]

theorem State.fanProveOn_fault (s : State) : s.fanProveOn.fault = s.fault := by
  unfold State.fanProveOn
  split <;> rfl

theorem State.fanProveOff_fault (s : State) : s.fanProveOff.fault = s.fault := by
  unfold State.fanProveOff
  split <;> rfl

/-- R138: a sample of FAN_PROVE whose handling `w` leaves the fan proof other than IDLE, at the end of
its event. -/
theorem State.fanSampled {w : State} {x : Input} {p : FanProof} {q : Timer}
    (frame : (s.setInput .fanProve x).stageFrame w) (fault : w.fault = s.fault)
    (proof : w.stage.fanProof = p) (timer : w.stage.fanProofTimer = q) (commanded : p ≠ .idle) :
    (w.settleInto s).stage.fanProof = p ∧ (w.settleInto s).stage.fanProofTimer = q ∧
      (w.settleInto s).accepted .fanProve = x.accepted ∧ (w.settleInto s).fault = s.fault ∧
      s.stageFrame { w.settleInto s with inputs := s.inputs } := by
  obtain ⟨settledProof, settledTimer⟩ := State.settleInto_fan (t := w) (by rw [proof]; exact commanded) s
  have settled := State.stageFrame_trans frame (State.settleInto_frame w s)
  refine ⟨settledProof.trans proof, settledTimer.trans timer, ?_,
    (State.settleInto_fault w s).trans fault, State.stageFrame_inputs settled⟩
  rw [← s.setInput_accepted .fanProve x, State.accepted, State.input, settled.inputs_eq]
  rfl

theorem State.fanProveActivates {pinHigh : Bool} (h : s.accepts .fanProve pinHigh true = true)
    (commanded : s.stage.fanProof ≠ .idle) :
    ∃ t, exec (.inputSample .fanProve pinHigh) s = .next t ∧
      t.stage.fanProof =
        (if s.stage.fanProof = .recovering ∨ s.stage.fanProof = .failed then .proven
         else s.stage.fanProof) ∧
      t.stage.fanProofTimer =
        (if s.stage.fanProof = .recovering then none else s.stage.fanProofTimer) ∧
      t.accepted .fanProve = .active ∧ t.fault = s.fault ∧
      s.stageFrame { t with inputs := s.inputs } := by
  obtain ⟨x, accepted, runs⟩ := State.accepts_silent rfl h
  have delivered : (s.setInput .fanProve x).deliverInput .fanProve (if (true : Bool) = true then
      .activated else .deactivated) = (s.setInput .fanProve x).fanProveOn := by
    simp [State.deliverInput, State.modeHears, State.stageActivated]
  rw [delivered] at runs
  obtain ⟨proof, timer⟩ := (s.setInput .fanProve x).fanProveOn_fan
  obtain ⟨p, q, heard, fault, frame⟩ := State.fanSampled (State.fanProveOn_frame _)
    (State.fanProveOn_fault _) proof timer (by
      split
      · nofun
      · exact commanded)
  exact ⟨_, runs, p, q, heard.trans accepted, fault, frame⟩

theorem State.fanProveDeactivates {pinHigh : Bool} (h : s.accepts .fanProve pinHigh false = true)
    (commanded : s.stage.fanProof ≠ .idle) :
    ∃ t, exec (.inputSample .fanProve pinHigh) s = .next t ∧
      t.stage.fanProof =
        (if s.stage.fanProof = .proven then .recovering else s.stage.fanProof) ∧
      t.stage.fanProofTimer =
        (if s.stage.fanProof = .proven then some 30000 else s.stage.fanProofTimer) ∧
      t.accepted .fanProve = .inactive ∧ t.fault = s.fault ∧
      s.stageFrame { t with inputs := s.inputs } := by
  obtain ⟨x, accepted, runs⟩ := State.accepts_silent rfl h
  have delivered : (s.setInput .fanProve x).deliverInput .fanProve (if (false : Bool) = true then
      .activated else .deactivated) = (s.setInput .fanProve x).fanProveOff := by
    simp [State.deliverInput, State.modeHears, State.stageDeactivated]
  rw [delivered] at runs
  obtain ⟨proof, timer⟩ := (s.setInput .fanProve x).fanProveOff_fan
  obtain ⟨p, q, heard, fault, frame⟩ := State.fanSampled (State.fanProveOff_frame _)
    (State.fanProveOff_fault _) proof timer (by
      split
      · nofun
      · exact commanded)
  exact ⟨_, runs, p, q, heard.trans accepted, fault, frame⟩

end

/-- Settles O43: what each event makes of the fan proof, which the rest of the event leaves because no
plain evaluation in a working state turns a fan off. -/
theorem fanProofDecides : Obligations.FanProofDecides := by
  refine ⟨fun s hp timer _ _ waiting active => ?_, fun s hp timer working _ unproven => ?_,
    fun s pinHigh h commanded => State.fanProveActivates h commanded,
    fun s pinHigh h commanded => State.fanProveDeactivates h commanded⟩
  · have proven : s.fanProven.stage.fanProof = .proven := rfl
    obtain ⟨proof, stopped⟩ := State.settleInto_fan (t := s.fanProven) (by rw [proven]; nofun) s
    refine ⟨_, State.fanProofExpiry_proves hp timer waiting active, proof, stopped,
      State.settleInto_fault _ s, fun i _ held => ?_,
      State.stageFrame_trans ⟨rfl, rfl⟩ (State.settleInto_frame _ s)⟩
    obtain ⟨-, -, stage⟩ := State.settleInto_plant (s := s.fanProven) s held
    exact State.slot_congr (by rw [stage]; rfl) i
  · obtain ⟨proof, stopped⟩ := State.failFanProof_fan working
    have held : Category.fanProve.within s.failFanProof.fault.heldSet = true := by
      rw [State.failFanProof_eq]
      exact State.raise_holds _ .fanProve
    refine ⟨_, State.fanProofExpiry_fails hp timer unproven, proof, stopped,
      State.settleInto_holds s held, fun i running => ?_,
      State.stageFrame_trans s.failFanProof_frame (State.settleInto_frame _ s)⟩
    obtain ⟨state, minOff, -, history, -, -⟩ := State.failFanProof_stops running
    exact ⟨state, minOff, history⟩

end Sys2Proof.Machine
